-- ==== Sys2Proof/Word.lean ====
section
/-! DEFINITION. The word types of the control port and the yard line (R45, R177): fields of one, two and four bytes. -/

namespace Sys2Proof

/-- One byte of a frame. -/
abbrev Byte := BitVec 8

/-- A two-byte field, sent most significant byte first (R45, R175). -/
abbrev Half := BitVec 16

/-- A four-byte field, sent most significant byte first (R45, R175). -/
abbrev Word := BitVec 32

end Sys2Proof
end

