-- ==== Sys2Proof/Syntax.lean ====
section
/-! DEFINITION. The commands the FC-46 takes: one constructor for each row of spec/opcode_table.json, with the
operands the spec gives it (the request fields of R177, the frame fields of R45 and R46, the zone, group or
station an event concerns, and the stamp of an edge, R20). -/

namespace Sys2Proof

/-- Charge class, coded as R45 codes it: 0 COLD, 1 WARM, 2 HOT. -/
inductive ChargeClass where
  | cold | warm | hot
  deriving DecidableEq, Repr

/-- Motion class, coded 0 to 3 (R45); a larger value is more restrictive. -/
inductive MotionClass where
  | run | reduced | creep | held
  deriving DecidableEq, Repr

/-- The station modes a DECLARE can carry (R45). -/
inductive DeclaredMode where
  | listening | run | halted
  deriving DecidableEq, Repr

/-- Zone summary of a DECLARE (R40, R45). -/
inductive Summary where
  | free | busy | blocked
  deriving DecidableEq, Repr

/-- DECLINE reason, codes 1 to 7 in this order (R45). -/
inductive DeclineReason where
  | busy | notRun | halted | full | duplicate | notQualified | zoneFault
  deriving DecidableEq, Repr

/-- HALT reason, codes 1 to 4 in this order (R45); also the station's own halt causes (R91). -/
inductive HaltReason where
  | host | estop | landingConflict | liftedInMotion
  deriving DecidableEq, Repr

/-- The door zone's two drive groups (R118). -/
inductive Group where
  | near | far
  deriving DecidableEq, Repr

/-- Direction of a drive group or of an encoder's rotation (R117, R118). -/
inductive Direction where
  | forward | reverse
  deriving DecidableEq, Repr

/-- A zone's index as its field lines number it: six sets of lines (R187). -/
abbrev ZoneIx := Fin 6

/-- The slab block of EXPECT_LANDING and IDENTIFY (R177). -/
structure SlabBlock where
  id : Word
  seq : Half
  dest : Byte
  nominal : Half
  width : Half
  thickness : Half
  weight : Half
  cls : Byte
  hostClass : Byte
  permit : Byte
  classAge : Word
  deriving DecidableEq, Repr

/-- A list entry as a request carries it (R177). -/
structure EntryBlock where
  id : Word
  seq : Half
  permit : Byte
  deriving DecidableEq, Repr

/-- A hearth slab as HEARTH_RESTORE carries it (R177). -/
structure HearthSlabBlock where
  id : Word
  thickness : Half
  width : Half
  weight : Half
  cls : Byte
  deriving DecidableEq, Repr

/-- The request payload of HEARTH_RESTORE (R160, R177). -/
structure RestoreBlock where
  slabs : List HearthSlabBlock
  pitch : Half
  residence : Half
  elapsed : Word
  offCentre : Byte
  strokePresent : Byte
  stroke : Half
  deriving DecidableEq, Repr

/-- The payload of a DECLARE (R46, R53). A slab ID of 0 on the entry zone is an absent one. -/
structure Declaration where
  mode : DeclaredMode
  entry : Summary
  entryId : Word
  exit : Summary
  doorOccupancy : Byte
  holding : Bool
  dreq : Half
  davg : Half
  freeLength : Half
  count : Byte
  faults : Byte
  deriving DecidableEq, Repr

/-- The transfer form of R6 as an OFFER carries it (R46). `measured` is absent as 65,535 on the wire, `landing`
(age since landing, landing station) as FFFFFFFFh and 0. -/
structure TransferForm where
  id : Word
  seq : Half
  dest : Byte
  nominal : Half
  measured : Option Half
  width : Half
  thickness : Half
  weight : Half
  cls : ChargeClass
  hostClass : MotionClass
  permit : Bool
  classAge : Word
  landing : Option (Word × Byte)
  deriving DecidableEq, Repr

/-- The payload of an OFFER (R46). -/
structure Offer where
  tag : Byte
  upstreamClass : MotionClass
  form : TransferForm
  deriving DecidableEq, Repr

/-- Header fields of a good frame sent to all stations (R45): its source and frame sequence. -/
structure Broadcast where
  source : Byte
  seq : Byte
  deriving DecidableEq, Repr

/-- Header fields of a good frame sent to one station (R45). -/
structure Addressed where
  source : Byte
  dest : Byte
  seq : Byte
  deriving DecidableEq, Repr

/-- The command in whose step the application of a list switch is struck: the LIST_SWITCH itself, or a command that ends
what had deferred the switch, by itself or by the evaluation of the approach zone that follows it (R108, R109, R123,
log 9). Each carries its command's operands. -/
inductive SwitchCause where
  /-- LIST_SWITCH -/
  | request
  /-- CONFIRM_ON_TABLE (R151) -/
  | returned
  /-- DOOR_TIMEOUT_OPENING (R143) -/
  | openingFault
  /-- FURN_PERMIT_FALL (R143) -/
  | permitLost
  /-- PAIR_WAIT_EXPIRY (R132) -/
  | pairExpired
  /-- REST_SENSOR_RISE (R25) -/
  | slabRests (zone : ZoneIx) (stamp : Word)
  /-- LANDING_INPUT_RISE (R31, R32) -/
  | slabLands (zone : ZoneIx)
  /-- MOVE_TIMEOUT (R26) -/
  | moveExpired (zone : ZoneIx)
  /-- IDENTIFY (R34, R135) -/
  | identified (zone : Byte) (slab : SlabBlock)
  /-- CLEAR_FAULT (R37, R135) -/
  | faultCleared (zone : Byte)
  /-- HOLD (R9) -/
  | held (id : Word)
  /-- RELEASE (R9) -/
  | released (id : Word)
  /-- LIST_APPEND (R104) -/
  | appended (bank : Byte) (entries : List EntryBlock)
  /-- LIST_SKIP_HEAD (R106) -/
  | headSkipped
  /-- LIST_INSERT_HEAD (R106) -/
  | headInserted (entry : EntryBlock)
  /-- LINE_RESUME (R92) -/
  | causeLifted
  /-- RELEASE_HOLDER (R100) -/
  | holderReleased (station : Byte)
  /-- ESTOP_INACTIVE (R91) -/
  | estopLifted
  /-- RESUME_RECEIVED (R90) -/
  | resumeHeard (header : Broadcast)
  /-- DECLARE_RECEIVED (R57, R90) -/
  | declareHeard (header : Broadcast) (decl : Declaration)
  /-- COUNT_HALF_END (R56, R57) -/
  | countEnded
  /-- START_RECONCILIATION (R38, R135) -/
  | reconciled
  deriving DecidableEq, Repr

/-- The operation in progress that a warm reset strikes, and how far it had gone (R113, R146, R159, R180).
`totals` says whether the hearth's count, F and M had followed the positions when the reset struck. -/
inductive Strike where
  /-- the reset falls between operations -/
  | between
  /-- a commit begun, step 1 of R146 not made -/
  | commitBegun
  /-- step 1 of R146 made, step 2 not begun -/
  | commitAppended (totals : Bool)
  /-- step 2 of a pair's commit in progress, the first entry removed or not (R113) -/
  | commitRemoving (firstRemoved : Bool)
  /-- steps 1 and 2 made -/
  | commitListed
  /-- steps 1 to 3 made -/
  | commitBarOut
  /-- steps 1 to 4 made and the deferred switch of step 5 in progress, at an unknown stage -/
  | commitSwitch
  /-- a discharge removal (R157), the oldest position removed or not -/
  | discharge (removed : Bool) (totals : Bool)
  /-- HEARTH_RESTORE, the position appended or not -/
  | restore (block : RestoreBlock) (appended : Bool) (totals : Bool)
  /-- HEARTH_REMOVE, the position removed or not -/
  | remove (index : Byte) (removed : Bool) (totals : Bool)
  /-- HEARTH_CLEAR, a number of the oldest positions removed -/
  | clear (removed : Nat) (totals : Bool)
  /-- LIST_APPEND, a number of entries appended -/
  | append (bank : Byte) (entries : List EntryBlock) (appended : Nat)
  /-- the application of a list switch (R110), at an unknown stage -/
  | switch (cause : SwitchCause)
  deriving DecidableEq, Repr

/-- The commands: one constructor for each row of spec/opcode_table.json, in the table's order. -/
inductive Instr where
  /-- POWER_ON: cold reset (R180). -/
  | powerOn
  /-- RESET_PIN_LOW: RESET# goes low and a warm reset strikes (R180). -/
  | resetPinLow (strike : Strike)
  /-- RESET_RELEASE: RESET# rises (R180). -/
  | resetRelease
  /-- REQUEST_OVERRUN: a request ends while the port is in work or answered; `bytes` are those clocked (R176). -/
  | requestOverrun (bytes : List Byte)
  /-- RESPONSE_FETCH: a fetch that clocks `clocked` bytes after its first byte 00h; `strike` is the operation that the
  warm reset of a RESTART strikes at its end (R176, R180). -/
  | responseFetch (clocked : Nat) (strike : Strike)
  /-- SET_PARAMETER (R178). -/
  | setParameter (id : Byte) (value : Word)
  /-- START (R179). -/
  | start
  /-- START_RECONCILIATION: FILTER_MS has passed after START (R38). -/
  | startReconciliation
  /-- RESTART (R180). -/
  | restart
  /-- EXPECT_LANDING (R4, R30). -/
  | expectLanding (zone : Byte) (slab : SlabBlock)
  /-- CANCEL_EXPECT (R4, R30). -/
  | cancelExpect (zone : Byte)
  /-- IDENTIFY (R5, R34). -/
  | identify (zone : Byte) (slab : SlabBlock)
  /-- HOLD (R9). -/
  | hold (id : Word)
  /-- RELEASE (R9). -/
  | release (id : Word)
  /-- READ_RECORD (R16). -/
  | readRecord (id : Word)
  /-- LIST_APPEND (R104). -/
  | listAppend (bank : Byte) (entries : List EntryBlock)
  /-- LIST_CLEAR_PENDING (R105). -/
  | listClearPending
  /-- LIST_SWITCH (R108). -/
  | listSwitch
  /-- LIST_SKIP_HEAD (R106). -/
  | listSkipHead
  /-- LIST_INSERT_HEAD (R106). -/
  | listInsertHead (entry : EntryBlock)
  /-- READ_LIST (R114). -/
  | readList (bank first last : Byte)
  /-- CONFIRM_CHARGED (R150). -/
  | confirmCharged
  /-- CONFIRM_ON_TABLE (R151). -/
  | confirmOnTable
  /-- HEARTH_RESTORE (R160). -/
  | hearthRestore (block : RestoreBlock)
  /-- HEARTH_REMOVE (R161). -/
  | hearthRemove (index : Byte)
  /-- HEARTH_CLEAR (R162). -/
  | hearthClear
  /-- HEARTH_CONFIRM (R158). -/
  | hearthConfirm
  /-- LINE_HALT (R91). -/
  | lineHalt
  /-- LINE_RESUME (R91). -/
  | lineResume
  /-- RELEASE_HOLDER (R100). -/
  | releaseHolder (station : Byte)
  /-- CLEAR_FAULT (R37). -/
  | clearFault (zone : Byte)
  /-- WATCH_SET (R13). -/
  | watchSet (slot : Byte) (id : Word)
  /-- WATCH_CLEAR (R13). -/
  | watchClear (slot : Byte)
  /-- SET_ALERT_LEVEL (R185). -/
  | setAlertLevel (level : Byte)
  /-- READ_STATUS (R182). -/
  | readStatus
  /-- READ_RANGE (R181). -/
  | readRange (zoneFirst zoneLast hearthFirst hearthLast : Byte)
  /-- READ_PEERS (R64). -/
  | readPeers
  /-- READ_EVENTS (R184). -/
  | readEvents (n : Byte)
  /-- SECONDS_TICK: a second of the seconds counter (R11, R171). -/
  | secondsTick
  /-- RESUME_CREEP_END: the resume creep period expires (R22). -/
  | resumeCreepEnd
  /-- ENTRY_SENSOR_RISE: accepted edge with its stamp (R20, R25). -/
  | entrySensorRise (zone : ZoneIx) (stamp : Word)
  /-- ENTRY_SENSOR_FALL: accepted edge with its stamp (R20, R25). -/
  | entrySensorFall (zone : ZoneIx) (stamp : Word)
  /-- REST_SENSOR_RISE: accepted edge with its stamp (R20, R25). -/
  | restSensorRise (zone : ZoneIx) (stamp : Word)
  /-- REST_SENSOR_FALL: accepted edge (R35, R74). -/
  | restSensorFall (zone : ZoneIx)
  /-- LANDING_INPUT_RISE: accepted edge (R31). -/
  | landingInputRise (zone : ZoneIx)
  /-- LANDING_INPUT_FALL: accepted edge (R33). -/
  | landingInputFall (zone : ZoneIx)
  /-- ENCODER_PULSE: one pulse of a door group's encoder (R117). -/
  | encoderPulse (group : Group) (dir : Direction)
  /-- SLAB_STILL: 500 ms without pulses with the groups off (R128). -/
  | slabStill
  /-- MOVE_TIMEOUT: a zone's motion timer expires in an internal move (R26). -/
  | moveTimeout (zone : ZoneIx)
  /-- HANDOVER_BROKEN: the exit zone's motion timer expires in RUNNING_OUT (R80). -/
  | handoverBroken
  /-- HANDOVER_TIMEOUT: the entry zone's motion timer expires during a crossing (R81). -/
  | handoverTimeout
  /-- OFFER_UNANSWERED: the answer timer expires (R69). -/
  | offerUnanswered
  /-- DRIVE_STALL: a door group's stall timer expires (R119). -/
  | driveStall (group : Group)
  /-- PAIR_WAIT_EXPIRY: the pair wait timer expires (R132). -/
  | pairWaitExpiry
  /-- DOOR_OPEN_ACTIVE: DOOR_OPEN becomes active (R143). -/
  | doorOpenActive
  /-- DOOR_OPEN_FALL: DOOR_OPEN becomes inactive (R144, R147). -/
  | doorOpenFall
  /-- DOOR_SHUT_ACTIVE: the accepted level of DOOR_SHUT; `active` yes is the row's event (R148). -/
  | doorShutActive (active : Bool)
  /-- PUSH_DONE_RISE: the accepted level of PUSH_DONE; `active` yes is the rising edge (R144). -/
  | pushDoneRise (active : Bool)
  /-- BAR_HOME_ACTIVE: the accepted level of BAR_HOME; `active` yes is the row's event (R147). -/
  | barHomeActive (active : Bool)
  /-- FURN_PERMIT_RISE (R141). -/
  | furnPermitRise
  /-- FURN_PERMIT_FALL (R143, R144). -/
  | furnPermitFall
  /-- DOOR_TIMEOUT_OPENING: the cycle timer expires in DOOR_OPENING (R143). -/
  | doorTimeoutOpening
  /-- PUSH_TIMEOUT: the cycle timer expires in PUSHING (R145). -/
  | pushTimeout
  /-- BAR_FAULT: the cycle timer expires in RETRACTING (R147). -/
  | barFault
  /-- DOOR_TIMEOUT_CLOSING: the cycle timer expires in DOOR_CLOSING (R148). -/
  | doorTimeoutClosing
  /-- DISCHARGE: accepted rising edge with its stamp (R157). -/
  | discharge (stamp : Word)
  /-- ESTOP_ACTIVE (R91). -/
  | estopActive
  /-- ESTOP_INACTIVE (R91). -/
  | estopInactive
  /-- FRAME_ERROR: a broken, truncated or failing frame (R43, R44). -/
  | frameError
  /-- DECLARE_RECEIVED: a good DECLARE (R48, R61). -/
  | declareReceived (header : Broadcast) (decl : Declaration)
  /-- HALT_RECEIVED: a good HALT (R90). -/
  | haltReceived (header : Broadcast) (reason : HaltReason)
  /-- RESUME_RECEIVED: a good RESUME (R90). -/
  | resumeReceived (header : Broadcast)
  /-- OFFER_RECEIVED: a good OFFER (R70). -/
  | offerReceived (header : Addressed) (offer : Offer)
  /-- ACCEPT_RECEIVED: a good ACCEPT (R69). -/
  | acceptReceived (header : Addressed) (tag : Byte) (id : Word) (cls : MotionClass)
  /-- DECLINE_RECEIVED: a good DECLINE (R69). -/
  | declineReceived (header : Addressed) (tag : Byte) (id : Word) (reason : DeclineReason)
  /-- ARRIVED_RECEIVED: a good ARRIVED (R77). -/
  | arrivedReceived (header : Addressed) (tag : Byte) (id : Word)
  /-- WITHDRAW_RECEIVED: a good WITHDRAW (R79). -/
  | withdrawReceived (header : Addressed) (tag : Byte) (id : Word)
  /-- TRANSMIT_ATTEMPT_START: the line has been idle for `idle` bit times (R49, R51). -/
  | transmitAttemptStart (idle : Nat)
  /-- COLLISION: the readback of the attempt in progress fails (R49). -/
  | collision
  /-- ATTEMPT_COMPLETE: both check bytes have read back (R49). -/
  | attemptComplete
  /-- LISTEN_HALF_END (R55). -/
  | listenHalfEnd
  /-- COUNT_HALF_END (R56). -/
  | countHalfEnd
  /-- DECLARATION_PERIOD: the 250 ms timer expires (R52). -/
  | declarationPeriod
  /-- DECLARE_CHANGE_HOLDOFF: 20 ms have passed since the last marking (R52). -/
  | declareChangeHoldoff
  /-- LINE_SILENT: the silence timer expires (R59). -/
  | lineSilent
  /-- PEER_STALE: a peer entry's age reaches 1,000 ms (R63). -/
  | peerStale (station : Byte)
  /-- BAD_FRAME_REQUEST: a request of these bytes fails the frame check (R176). -/
  | badFrameRequest (bytes : List Byte)
  deriving DecidableEq, Repr

end Sys2Proof
end

