-- ==== Sys2Proof/Decode.lean ====
section
/-! DEFINITION. The command a word spells by the bits of spec/opcode_table.json. No row of this table gives bits, so
no word spells a command (log 39). The byte layouts of requests and frames are in Machine/PortFrame.lean and
Machine/LineFrame.lean. -/

namespace Sys2Proof

/-- The command spelt by the `nbits` bits of `w`: none, because no row of the table gives bits. -/
def decodeTableWord (_nbits _w : Nat) : Option Instr :=
  none

end Sys2Proof
end

