-- ==== Sys2Proof/Config.lean ====
section
/-! DEFINITION. What an implementation fixes and the spec leaves open: the free values. None has a body, so no proof
can lean on a value of one. -/

namespace Sys2Proof

/-- The value kept for a stamp on the seconds counter's scale that falls outside the signed 32-bit range R1 and R153
give it. The spec states none (log 11). -/
opaque Config.stampOutOfRange : Int → Int

/-- The age in seconds that a transfer form carries for a negative one: R6 gives its field 0 to 2,147,483,647 and states
nothing below 0 (log 68). -/
opaque Config.negativeAge : Int → Nat

/-- The value a report carries for a number outside the signed 32-bit range of R183. The spec states none (log 12). -/
opaque Config.reportValueOutOfRange : Int → Int

/-- Which entries of the old banks a warm reset leaves in a bank when it strikes a switch application, as places in
ACTIVE followed by PENDING: R113 gives only a stage between the old banks and the new (log 10). The argument is a fresh
index. -/
opaque Config.struckBank : Nat → List Nat

/-- The value a read shows for a number that its field cannot hold: a signed one outside four bytes (R177, log 65), or an
H − F below 0 (R164, log 64). The spec states none. -/
opaque Config.readValueOutOfRange : Int → Int

end Sys2Proof
end

