-- ==== Sys2Proof/Machine/Params.lean ====
section
/-! DEFINITION. The configuration of the Control Port (R178): fifty parameters by id, their ranges and defaults, and
a name for each as the chapters use it. -/

namespace Sys2Proof.Machine

/-- One row of the parameter table: the range and the default of an id. -/
structure ParamRow where
  lo : Nat
  hi : Nat
  dflt : Nat
  deriving DecidableEq, Repr

/-- Rows of ids 1 to 19: the station, the line and the zones (R178). -/
def stationRows : List ParamRow :=
  [⟨1, 8, 1⟩, ⟨1, 255, 1⟩, ⟨0, 1, 0⟩, ⟨0, 15, 2⟩, ⟨0, 1, 0⟩, ⟨2, 6, 2⟩, ⟨1, 5, 1⟩] ++
  List.replicate 6 ⟨0, 3, 0⟩ ++ List.replicate 6 ⟨0, 1, 0⟩

/-- Rows of ids 20 to 36: timing, slabs, door and hearth width (R178). -/
def doorRows : List ParamRow :=
  [⟨0, 50, 10⟩, ⟨5, 120, 30⟩, ⟨0, 30, 10⟩, ⟨2000, 45000, 45000⟩, ⟨0, 7200, 0⟩, ⟨0, 7200, 0⟩, ⟨0, 200, 50⟩,
   ⟨0, 600, 0⟩, ⟨500, 5000, 1000⟩, ⟨6000, 16000, 12000⟩, ⟨0, 16000, 6000⟩, ⟨1000, 16000, 10000⟩, ⟨0, 500, 200⟩,
   ⟨100, 600, 300⟩, ⟨0, 300, 200⟩, ⟨6000, 14000, 10000⟩, ⟨100, 600, 250⟩]

/-- Rows of ids 37 to 50: hearth, heating factors, stroke and cycle timing (R178). -/
def hearthRows : List ParamRow :=
  [⟨50, 400, 100⟩, ⟨10000, 60000, 40000⟩, ⟨100, 3000, 1000⟩, ⟨10, 150, 40⟩, ⟨10, 150, 35⟩, ⟨10, 150, 30⟩,
   ⟨0, 65535, 3000⟩, ⟨0, 65535, 5000⟩, ⟨0, 400, 100⟩, ⟨10, 200, 40⟩, ⟨2, 30, 10⟩, ⟨5, 60, 30⟩, ⟨600, 7200, 1200⟩,
   ⟨60, 7200, 600⟩]

/-- The parameter table of R178, id 1 first. -/
def paramTable : List ParamRow := stationRows ++ doorRows ++ hearthRows

/-- The row of an id, none for an id not in the table. -/
def paramRow? (id : Nat) : Option ParamRow :=
  if id == 0 then none else paramTable[id - 1]?

/-- A configuration: one value for each parameter, id 1 first. -/
structure Params where
  values : List Nat
  deriving DecidableEq, Repr

/-- Every parameter at its default (R178). -/
def Params.defaults : Params := ⟨paramTable.map (·.dflt)⟩

/-- The value of a parameter by id. -/
def Params.get (p : Params) (id : Nat) : Nat := p.values.getD (id - 1) 0

/-- The configuration with one parameter's value replaced. -/
def Params.put (p : Params) (id value : Nat) : Params := ⟨p.values.set (id - 1) value⟩

/-- STATION_NO. -/
def Params.stationNo (p : Params) : Nat := p.get 1
/-- MEMBER_SET, the sum of 2^(m−1) over the members. -/
def Params.memberSet (p : Params) : Nat := p.get 2
/-- READY_RULE is NEIGHBOURS. -/
def Params.readyNeighbours (p : Params) : Bool := p.get 3 == 1
/-- ERR_THRESHOLD. -/
def Params.errThreshold (p : Params) : Nat := p.get 4
/-- HAS_FURNACE. -/
def Params.hasFurnace (p : Params) : Bool := p.get 5 == 1
/-- ZONE_COUNT. -/
def Params.zoneCount (p : Params) : Nat := p.get 6
/-- DOOR_ZONE. -/
def Params.doorZone (p : Params) : Nat := p.get 7
/-- ZONE_CLASS of zone `k`. -/
def Params.zoneClass (p : Params) (k : Nat) : Nat := p.get (8 + k)
/-- LANDING of zone `k`. -/
def Params.landing (p : Params) (k : Nat) : Bool := p.get (14 + k) == 1
/-- FILTER_MS. -/
def Params.filterMs (p : Params) : Nat := p.get 20
/-- MOTION_TIMEOUT in milliseconds. -/
def Params.motionTimeout (p : Params) : Nat := p.get 21 * 1000
/-- RESUME_CREEP in seconds. -/
def Params.resumeCreep (p : Params) : Nat := p.get 22
/-- HEAVY_KG. -/
def Params.heavyKg (p : Params) : Nat := p.get 23
/-- HOT_LIMIT. -/
def Params.hotLimit (p : Params) : Nat := p.get 24
/-- WARM_LIMIT. -/
def Params.warmLimit (p : Params) : Nat := p.get 25
/-- LENGTH_TOL. -/
def Params.lengthTol (p : Params) : Nat := p.get 26
/-- PAIR_TIMEOUT in seconds. -/
def Params.pairTimeout (p : Params) : Nat := p.get 27
/-- ENC_PPM. -/
def Params.encPpm (p : Params) : Nat := p.get 28
/-- DOOR_LENGTH, Z. -/
def Params.doorLength (p : Params) : Nat := p.get 29
/-- DOOR_AXIS, A. -/
def Params.doorAxis (p : Params) : Nat := p.get 30
/-- DOOR_WIDTH, Wd. -/
def Params.doorWidth (p : Params) : Nat := p.get 31
/-- DOOR_CLEAR, c_d. -/
def Params.doorClear (p : Params) : Nat := p.get 32
/-- PAIR_GAP, Cp. -/
def Params.pairGap (p : Params) : Nat := p.get 33
/-- WIDTH_TOL. -/
def Params.widthTol (p : Params) : Nat := p.get 34
/-- HEARTH_WIDTH, Hw. -/
def Params.hearthWidth (p : Params) : Nat := p.get 35
/-- SIDE_CLEAR, c_h. -/
def Params.sideClear (p : Params) : Nat := p.get 36
/-- SLAB_GAP, G. -/
def Params.slabGap (p : Params) : Nat := p.get 37
/-- HEARTH_LENGTH, H. -/
def Params.hearthLength (p : Params) : Nat := p.get 38
/-- LOAD_CAPACITY in kilograms (R141: configured in tonnes, compared in kilograms). -/
def Params.loadCapacityKg (p : Params) : Nat := p.get 39 * 1000
/-- K_COLD, K_WARM or K_HOT by charge class. -/
def Params.heating (p : Params) : ChargeClass → Nat
  | .cold => p.get 40
  | .warm => p.get 41
  | .hot => p.get 42
/-- STROKE_BASE, Dc. -/
def Params.strokeBase (p : Params) : Nat := p.get 43
/-- STROKE_LIMIT, Smax. -/
def Params.strokeLimit (p : Params) : Nat := p.get 44
/-- RUNOUT. -/
def Params.runout (p : Params) : Nat := p.get 45
/-- POS_TOL. -/
def Params.posTol (p : Params) : Nat := p.get 46
/-- DOOR_TIMEOUT in milliseconds. -/
def Params.doorTimeout (p : Params) : Nat := p.get 47 * 1000
/-- PUSH_TIMEOUT in milliseconds. -/
def Params.pushTimeout (p : Params) : Nat := p.get 48 * 1000
/-- STOP_THRESHOLD. -/
def Params.stopThreshold (p : Params) : Nat := p.get 49
/-- NOMINAL_INTERVAL. -/
def Params.nominalInterval (p : Params) : Nat := p.get 50

/-- `n` is a station number, 1 to 8, of the member set (R178). -/
def Params.isMember (p : Params) (n : Nat) : Bool :=
  1 ≤ n && n ≤ 8 && p.memberSet.testBit (n - 1)

/-- The members in increasing station number. -/
def Params.members (p : Params) : List Nat :=
  [1, 2, 3, 4, 5, 6, 7, 8].filter p.isMember

/-- The members other than the station itself (R55, R60). -/
def Params.others (p : Params) : List Nat :=
  p.members.filter (· != p.stationNo)

/-- The upstream neighbour: the highest member below STATION_NO (R57). -/
def Params.upstream (p : Params) : Option Nat :=
  (p.members.filter (· < p.stationNo)).getLast?

/-- The downstream neighbour: the lowest member above STATION_NO (R57). -/
def Params.downstream (p : Params) : Option Nat :=
  (p.members.filter (p.stationNo < ·)).head?

end Sys2Proof.Machine
end

