-- ==== Sys2Proof/Machine/State.lean ====
section
/-! DEFINITION. The state of the FC-46 as plain data: every register, list, context, timer and pin the spec gives it,
block by block (00_scope.md, block overview), and the queue of waiting commands. -/

namespace Sys2Proof.Machine

/-- The block has no stop: faults of zones, LIMBO and isolation are states it goes on from, so no fault is ever
raised. Safe: nothing is excluded by it. -/
inductive Fault where
  deriving DecidableEq, Repr

/-- The reasons a step can be refused. -/
inductive Refusal where
  /-- A command that has no meaning yet; raised by exec's arm for it. Safe: nothing follows from it. -/
  | notModelled (mnemonic : String)
  deriving DecidableEq, Repr

/-- A timer: the milliseconds left, or stopped. Frozen timers are those whose owner does not run them (log 2). -/
abbrev Timer := Option Nat

/-! ## Record Store (Chapter 1) -/

/-- Status of a record (R2). -/
inductive RecordStatus where
  | expected | incoming | live
  deriving DecidableEq, Repr

/-- The hold reasons, in the order of R9. -/
inductive HoldReason where
  | host | lengthMismatch | misrouted | endOfLine | outOfSequence | unlisted | tooLong
  deriving DecidableEq, Repr

/-- A hold-reason set: each reason at most once (R9). -/
structure Holds where
  host : Bool := false
  lengthMismatch : Bool := false
  misrouted : Bool := false
  endOfLine : Bool := false
  outOfSequence : Bool := false
  unlisted : Bool := false
  tooLong : Bool := false
  deriving DecidableEq, Repr

/-- A slab record (R1, R9, R10). -/
structure Record where
  id : Nat
  seq : Nat
  dest : Nat
  nominal : Nat
  measured : Option Nat
  width : Nat
  thickness : Nat
  weight : Nat
  cls : ChargeClass
  classStamp : Int
  hostClass : MotionClass
  baseClass : MotionClass
  permit : Bool
  holds : Holds
  /-- landing time and landing station (R1) -/
  landing : Option (Int × Nat)
  status : RecordStatus
  deriving DecidableEq, Repr

/-- The Record Store: the pool and the two watch slots (R2, R13). -/
structure RecordStore where
  pool : List Record := []
  watch1 : Option Nat := none
  watch2 : Option Nat := none
  deriving DecidableEq, Repr

/-! ## Zone Tracker (Chapter 2) -/

/-- Zone states, in the order of R17. -/
inductive ZoneState where
  | free | expecting | reserved | receiving | occupied | sending | unknown | fault
  deriving DecidableEq, Repr

/-- Fault kinds, in the order of R18. -/
inductive FaultKind where
  | moveTimeout | landingConflict | liftedInMotion | slabOverhang | slabDisplaced | restartInMotion
  | handoverBroken | handoverTimeout | driveStall | positionFault | pushFault | barFault | doorFault
  deriving DecidableEq, Repr

/-- Fault kind and fault partner of a zone in FAULT (R17). -/
structure ZoneFault where
  kind : FaultKind
  partner : Option Nat
  deriving DecidableEq, Repr

/-- One entry of the zone map (R17). Occupants are slab IDs, downstream first (log 5). -/
structure Zone where
  state : ZoneState := .free
  fault : Option ZoneFault := none
  occ : List Nat := []
  /-- the EXPECTED record an EXPECTING zone names (R2) -/
  expected : Option Nat := none
  departing : Bool := false
  handleMoved : Bool := false
  /-- run-on, or a passing slab's run-through, has been granted out of this zone into the next one (R27, R124) -/
  runOnGranted : Bool := false
  /-- the rest sensor's rising edge has been passed over under run-on (R27, R32) -/
  restPassed : Bool := false
  /-- the slab whose internal move has claimed the zone, from its grant until its handle moves (R24, R26, log 67) -/
  claim : Option Nat := none
  zoneClass : MotionClass := .run
  landing : Bool := false
  timer : Timer := none
  /-- the entry sensor's rising stamp of the passage that made the zone RECEIVING (R20) -/
  passage : Option Word := none
  lastTransit : Option Nat := none
  verified : Bool := false
  /-- PASSING_HELD has been queued for the slab held at rest here (R124) -/
  heldReported : Bool := false
  deriving DecidableEq, Repr

/-- The input pins of one zone as filtered levels, and the stamps of the latest accepted rising edges (R20). -/
structure ZonePins where
  entry : Bool := false
  rest : Bool := false
  landing : Bool := false
  entryStamp : Option Word := none
  restStamp : Option Word := none
  deriving DecidableEq, Repr

/-- The field inputs (R187). -/
structure Pins where
  zones : List ZonePins := List.replicate 6 {}
  doorOpen : Bool := false
  doorShut : Bool := false
  pushDone : Bool := false
  barHome : Bool := false
  furnPermit : Bool := false
  estop : Bool := false
  deriving DecidableEq, Repr

/-! ## Line Interface (Chapter 3) -/

/-- Station modes, in the order of R54. -/
inductive Mode where
  | unstarted | listening | run | halted | isolated
  deriving DecidableEq, Repr

/-- Isolation causes, in the order of R54. -/
inductive Isolation where
  | silence | duplicate | transmitFault
  deriving DecidableEq, Repr

/-- Qualification stages, in the order of R64. -/
inductive Stage where
  | notStarted | listen | count | passed
  deriving DecidableEq, Repr

/-- Peer states, in the order of R60. -/
inductive PeerState where
  | absent | heard | qualified | stale
  deriving DecidableEq, Repr

/-- One entry of the peer table (R60). -/
structure Peer where
  station : Nat
  state : PeerState := .absent
  last : Option Declaration := none
  age : Option Nat := none
  consecutive : Nat := 0
  lastSeq : Option Byte := none
  gaps : Nat := 0
  changed : Bool := false
  deriving DecidableEq, Repr

/-- The eight kinds of frame with their payloads (R45, R46). -/
inductive FrameBody where
  | declare (d : Declaration)
  | offer (o : Offer)
  | accept (tag : Byte) (id : Word) (cls : MotionClass)
  | decline (tag : Byte) (id : Word) (reason : DeclineReason)
  | arrived (tag : Byte) (id : Word)
  | withdraw (tag : Byte) (id : Word)
  | halt (reason : HaltReason)
  | resume
  deriving DecidableEq, Repr

/-- A frame: source, destination, sequence and body (R45). -/
structure Frame where
  source : Byte
  dest : Byte
  seq : Byte
  body : FrameBody
  deriving DecidableEq, Repr

/-- The seven transmit slots, in the order of R51. -/
inductive SlotKind where
  | lineHalt | declare | offer | withdraw | accept | decline | arrived
  deriving DecidableEq, Repr

/-- The content of a slot with its fill time (R51, log 17). -/
structure Filled (α : Type) where
  content : α
  fill : Nat
  deriving DecidableEq, Repr

/-- The transmit slots. The DECLARE slot holds a pending mark: the frame is built at each attempt (R51, R53). -/
structure Slots where
  lineHalt : Option (Filled FrameBody) := none
  declare : Option (Filled Unit) := none
  offer : Option (Filled FrameBody) := none
  withdraw : Option (Filled FrameBody) := none
  accept : Option (Filled FrameBody) := none
  decline : Option (Filled FrameBody) := none
  arrived : Option (Filled FrameBody) := none
  deriving DecidableEq, Repr

/-- A transmit attempt in progress (R49, R51). -/
structure Attempt where
  slot : SlotKind
  frame : Frame
  fill : Nat
  /-- the OFFER it carries has been withdrawn (R78) -/
  withdrawn : Bool := false
  deriving DecidableEq, Repr

/-- The Line Interface. -/
structure LineInterface where
  mode : Mode := .unstarted
  isolation : Option Isolation := none
  stage : Stage := .notStarted
  windowTimer : Timer := none
  tally : Nat := 0
  lineErrors : Nat := 0
  foreign : Nat := 0
  collisions : Nat := 0
  consecutive : Nat := 0
  /-- the next attempt needs the back-off gap of R50 -/
  backoff : Bool := false
  txSeq : Byte := 0
  slots : Slots := {}
  attempt : Option Attempt := none
  moment : Nat := 0
  declaring : Bool := false
  period : Timer := none
  holdoff : Timer := none
  lastDeclared : Option Declaration := none
  silence : Timer := none
  peers : List Peer := []
  deriving DecidableEq, Repr

/-! ## Handover Engine (Chapter 4) -/

/-- States of the outgoing context (R66). -/
inductive OutState where
  | idle | offered | cleared | runningOut
  deriving DecidableEq, Repr

/-- The outgoing context (R66). State NONE is `idle`; `tag`, `slab` and `downClass` mean something outside it. -/
structure Outgoing where
  state : OutState := .idle
  tagCounter : Byte := 0
  tag : Byte := 0
  slab : Nat := 0
  downClass : MotionClass := .run
  answer : Timer := none
  exitClear : Bool := false
  offerBar : Bool := false
  lastDecline : Option (Nat × DeclineReason) := none
  deriving DecidableEq, Repr

/-- States of the incoming context (R67). -/
inductive InState where
  | idle | reserved | receiving
  deriving DecidableEq, Repr

/-- The incoming context (R67). State NONE is `idle`. -/
structure Incoming where
  state : InState := .idle
  tag : Byte := 0
  slab : Nat := 0
  upClass : MotionClass := .run
  deriving DecidableEq, Repr

/-! ## Halt Unit (Chapter 5) -/

/-- The station's own halt causes, each present at most once (R91). -/
structure Causes where
  host : Bool := false
  estop : Bool := false
  landingConflict : Bool := false
  liftedInMotion : Bool := false
  deriving DecidableEq, Repr

/-- The halt set, in increasing station number, and the own causes (R89, R91). -/
structure HaltUnit where
  holders : List Nat := []
  causes : Causes := {}
  deriving DecidableEq, Repr

/-! ## List Manager (Chapter 6) -/

/-- One entry of a bank (R102). -/
structure ListEntry where
  id : Nat
  seq : Nat
  permit : Bool
  deriving DecidableEq, Repr

/-- The two banks, the integrity and the deferred switch (R102, R103). -/
structure ListManager where
  active : List ListEntry := []
  pendingBank : List ListEntry := []
  suspect : Bool := false
  deferred : Bool := false
  deriving DecidableEq, Repr

/-! ## Door Positioner (Chapter 7) -/

/-- Door substates, in the order of R115. -/
inductive Substate where
  | empty | positioning | pairWait | positioned | charging | barOut
  deriving DecidableEq, Repr

/-- Roles, in the order of R115. -/
inductive Role where
  | passing | single | pairFirst | pairSecond
  deriving DecidableEq, Repr

/-- A track: one slab followed in the door zone (R115). -/
structure Track where
  id : Nat
  role : Role
  count : Int := 0
  encoder : Group := .near
  target : Option Nat := none
  corrections : Nat := 0
  handleMoved : Bool := false
  /-- the leading edge has been taken, so that pulses are counted (R117) -/
  counting : Bool := false
  /-- the tracked position measured at the end of its placement (R131) -/
  placedAt : Option Nat := none
  deriving DecidableEq, Repr

/-- How far the placement of a slab has gone (R128, R129). -/
inductive Phase where
  /-- no placement under way -/
  | idle
  /-- from the grant until the handle has moved -/
  | entry
  /-- final approach, at CREEP or slower -/
  | approach
  /-- groups off, waiting for the slab to be still -/
  | stopping
  /-- a correction move -/
  | correcting (dir : Direction)
  deriving DecidableEq, Repr

/-- The door zone context (R115) with the placement under way (R128). -/
structure Door where
  substate : Substate := .empty
  tracks : List Track := []
  /-- the roles the last derivation gave to occupants without a track (R135) -/
  givenRoles : List (Nat × Role) := []
  offCentre : Bool := false
  pairTimer : Timer := none
  stallNear : Timer := none
  stallFar : Timer := none
  lastError : Option Int := none
  phase : Phase := .idle
  /-- the slab being placed -/
  placing : Option Nat := none
  suspended : Bool := false
  still : Timer := none
  nearCount : Int := 0
  farCount : Int := 0
  /-- net near pulses by the millisecond they came in, newest first, no older than FILTER_MS (R117, log 4) -/
  nearLog : List (Word × Int) := []
  /-- the near encoder's count at the rising edge of the passage being measured (R120) -/
  riseCount : Option Int := none
  deriving DecidableEq, Repr

/-! ## Charge Sequencer (Chapter 8) -/

/-- Cycle states, in the order of R137. -/
inductive CycleState where
  | idle | readyCheck | hearthWait | doorOpening | pushing | retracting | doorClosing | limbo
  deriving DecidableEq, Repr

/-- LIMBO reasons, codes 1 to 5 in this order (R145). -/
inductive LimboReason where
  | doorLost | pushTimeout | haltInPush | isolatedInPush | resetInPush
  deriving DecidableEq, Repr

/-- Which waiting reports this cycle has queued (R137). -/
structure Waits where
  notIntact : Bool := false
  hearthWait : Bool := false
  permitWait : Bool := false
  deriving DecidableEq, Repr

/-- The charge cycle context (R137). An absent charge is the empty list. -/
structure Cycle where
  state : CycleState := .idle
  charge : List Nat := []
  offCentre : Bool := false
  pitch : Nat := 0
  weightSum : Nat := 0
  stroke : Option Nat := none
  timer : Timer := none
  committing : Bool := false
  limbo : Option LimboReason := none
  latePush : Bool := false
  waits : Waits := {}
  /-- the value last sent on the setpoint output since reset (R142, R187) -/
  setpoint : Option Nat := none
  deriving DecidableEq, Repr

/-! ## Hearth Tracker (Chapter 9) -/

/-- A slab of a hearth position (R153). -/
structure HearthSlab where
  id : Nat
  thickness : Nat
  width : Nat
  weight : Nat
  cls : ChargeClass
  deriving DecidableEq, Repr

/-- A hearth position (R153). -/
structure Position where
  number : Nat
  slabs : List HearthSlab
  pitch : Nat
  weightSum : Nat
  residence : Nat
  saturated : Bool
  chargeTime : Int
  offCentre : Bool
  stroke : Option Nat
  margin : Option Int
  deriving DecidableEq, Repr

/-- Hearth integrity, coded 0 UNKNOWN, 1 SUSPECT in reports (R141, R158). -/
inductive Integrity where
  | unknown | intact | suspect
  deriving DecidableEq, Repr

/-- The hearth record, oldest position first (R153, R154, R158). -/
structure Hearth where
  positions : List Position := []
  count : Nat := 0
  fill : Nat := 0
  load : Nat := 0
  nextNumber : Nat := 1
  integrity : Integrity := .unknown
  deriving DecidableEq, Repr

/-! ## Pace Calculator (Chapter 10) -/

/-- The Pace Calculator (R165). -/
structure Pace where
  ring : List Nat := []
  /-- stamp and seconds counter of the last discharge -/
  last : Option (Word × Word) := none
  davg : Nat
  stable : Bool := false
  dreq : Nat := 0
  saturated : Bool := false
  linePace : Nat := 0
  source : Nat
  reported : Nat := 0
  deriving DecidableEq, Repr

/-! ## Control Port (Chapter 11) -/

/-- Response statuses, codes 1 to 5 in this order (R175). -/
inductive Status where
  | ok | accepted | busy | refused | badFrame
  deriving DecidableEq, Repr

/-- Refusal reasons, codes 0 to 9 in this order (R175). -/
inductive Reason where
  | none | locked | mode | range | full | duplicate | unknownId | order | state | integrity
  deriving DecidableEq, Repr

/-- A response frame (R175). -/
structure Response where
  status : Status
  reason : Reason := .none
  overrun : Bool := false
  payload : List Byte := []
  deriving DecidableEq, Repr

/-- The Control Port is idle, in work or answered (R176). -/
inductive PortState where
  | idle
  | inWork (overrun : Bool)
  | answered (r : Response)
  deriving DecidableEq, Repr

/-- Report kinds, in the order of R186: kind code 1 first. -/
inductive ReportKind where
  | transmitFault | duplicateStation | landingConflict | liftedInMotion | pushFault | driveStall | handoverBroken
  | moveTimeout | handoverTimeout | slabOverhang | slabDisplaced | positionFault | doorFault | barFault | latePushDone
  | lineSilent | haltOn | listSuspect | hearthUnverified | dischargeUntracked
  | soakShortfall | slabLost | unknownLanding | unknownPresence | misrouted | endOfLine | lengthMismatch | tooLong
  | passingHeld | offCentreCharge | listSwitchFailed | listEntryMissing | recordDropped | hearthNotIntact
  | residenceSaturated | paceSaturated | doorLostInRetract | peerStale | lineNoisy
  | outOfSequence | unlisted | pairAbandoned | hearthWait | permitWait | permitLost | strokeClamped | offerUnanswered
  | millStopSeen | haltOff | paceChanged
  | offerDeclined | offerWithdrawn | incomingWithdrawn | classDemoted | chargeReturned | faultCleared | lineReady
  | lineHeard | peerQualified
  | landed | lifted | arrivedIn | passedOut | chargeStarted | charged | discharged | listSwitched
  | watchHit
  deriving DecidableEq, Repr

/-- A report of the queue (R183). Its priority is its kind's. -/
structure Report where
  number : Half
  time : Word
  kind : ReportKind
  zone : Option Nat
  slab : Option Nat
  value : Option Int
  lostAfter : Bool := false
  lost : Nat := 0
  deriving DecidableEq, Repr

/-- The Control Port with the report queue, oldest report first (R176, R180, R183, R185). -/
structure ControlPort where
  state : PortState := .idle
  restartPending : Bool := false
  /-- the bytes clocked out on MISO in the latest transaction (R175) -/
  miso : List Byte := []
  reports : List Report := []
  nextNumber : Half := 0
  alertLevel : Nat := 7
  deriving DecidableEq, Repr

/-! ## The machine -/

/-- The seconds counter and the millisecond timebase (00_scope.md, Time). -/
structure Clock where
  seconds : Word := 0
  millis : Word := 0
  subsec : Nat := 0
  deriving DecidableEq, Repr

/-- Whether START has succeeded since the last reset, and the FILTER_MS wait it makes (R38, R179). -/
inductive StartPhase where
  | unstarted
  | reconciling (left : Nat)
  | started
  deriving DecidableEq, Repr

/-- Kind of the last reset (R182). -/
inductive ResetKind where
  | cold | warm
  deriving DecidableEq, Repr

/-- The whole state of the FC-46 and the queue of the commands that are waiting, first in, first out. -/
structure State where
  clk : Clock
  resetLow : Bool
  pins : Pins
  phase : StartPhase
  lastReset : ResetKind
  params : Params
  store : RecordStore
  zones : List Zone
  creep : Timer
  line : LineInterface
  out : Outgoing
  inc : Incoming
  halt : HaltUnit
  lists : ListManager
  door : Door
  cycle : Cycle
  hearth : Hearth
  pace : Pace
  port : ControlPort
  freeIx : Nat
  pending : List Instr
  deriving DecidableEq, Repr

/-- The state right after power-on: every item at the value its chapter gives it after a cold reset (R15, R19, R54,
R60, R66, R67, R89, R91, R103, R115, R137, R154, R158, R165, R176, R178, R180, R183, R185), the configuration at its
defaults, and nothing waiting. -/
def State.reset : State where
  clk := {}
  resetLow := false
  pins := {}
  phase := .unstarted
  lastReset := .cold
  params := Params.defaults
  store := {}
  zones := List.replicate 2 {}
  creep := none
  line := {}
  out := {}
  inc := {}
  halt := {}
  lists := {}
  door := {}
  cycle := {}
  hearth := {}
  pace := { davg := 600, source := 1 }
  port := {}
  freeIx := 0
  pending := []

end Sys2Proof.Machine
end

