-- ==== Sys2Proof/Machine/Codes.lean ====
section
/-! DEFINITION. The codes of the coded fields (R45, R175, R186) and the byte order of multi-byte fields (R45, R175). -/

namespace Sys2Proof

/-- Code of a charge class (R45). -/
def ChargeClass.code : ChargeClass → Nat
  | .cold => 0
  | .warm => 1
  | .hot => 2

/-- The charge class of a code (R45). -/
def ChargeClass.ofCode? : Nat → Option ChargeClass
  | 0 => some .cold
  | 1 => some .warm
  | 2 => some .hot
  | _ => none

/-- Code of a motion class (R45). -/
def MotionClass.code : MotionClass → Nat
  | .run => 0
  | .reduced => 1
  | .creep => 2
  | .held => 3

/-- The motion class of a code (R45). -/
def MotionClass.ofCode? : Nat → Option MotionClass
  | 0 => some .run
  | 1 => some .reduced
  | 2 => some .creep
  | 3 => some .held
  | _ => none

/-- The larger, that is the more restrictive, of two motion classes (R10, R22). -/
def MotionClass.max (a b : MotionClass) : MotionClass :=
  if a.code < b.code then b else a

/-- Code of a declared mode: 1 LISTENING, 2 RUN, 3 HALTED (R45). -/
def DeclaredMode.code : DeclaredMode → Nat
  | .listening => 1
  | .run => 2
  | .halted => 3

/-- The declared mode of a code (R45). -/
def DeclaredMode.ofCode? : Nat → Option DeclaredMode
  | 1 => some .listening
  | 2 => some .run
  | 3 => some .halted
  | _ => none

/-- Code of a zone summary: 0 FREE, 1 BUSY, 2 BLOCKED (R45). -/
def Summary.code : Summary → Nat
  | .free => 0
  | .busy => 1
  | .blocked => 2

/-- The zone summary of a code (R45). -/
def Summary.ofCode? : Nat → Option Summary
  | 0 => some .free
  | 1 => some .busy
  | 2 => some .blocked
  | _ => none

/-- Code of a DECLINE reason, 1 to 7 (R45). -/
def DeclineReason.code (r : DeclineReason) : Nat := r.ctorIdx + 1

/-- The DECLINE reason of a code (R45). -/
def DeclineReason.ofCode? : Nat → Option DeclineReason
  | 1 => some .busy
  | 2 => some .notRun
  | 3 => some .halted
  | 4 => some .full
  | 5 => some .duplicate
  | 6 => some .notQualified
  | 7 => some .zoneFault
  | _ => none

/-- Code of a HALT reason, 1 to 4 (R45). -/
def HaltReason.code (r : HaltReason) : Nat := r.ctorIdx + 1

/-- The HALT reason of a code (R45). -/
def HaltReason.ofCode? : Nat → Option HaltReason
  | 1 => some .host
  | 2 => some .estop
  | 3 => some .landingConflict
  | 4 => some .liftedInMotion
  | _ => none

/-- A yes/no field: 0 no, 1 yes (R45, R177). -/
def flagOf? : Nat → Option Bool
  | 0 => some false
  | 1 => some true
  | _ => none

/-! ## Bytes -/

/-- A byte of a number that fits one. -/
def byteOf (n : Nat) : Byte := BitVec.ofNat 8 n

/-- Two bytes, most significant first (R45, R175). -/
def bytesOfHalf (h : Half) : List Byte := [h.extractLsb' 8 8, h.extractLsb' 0 8]

/-- Four bytes, most significant first (R45, R175). -/
def bytesOfWord (w : Word) : List Byte :=
  [w.extractLsb' 24 8, w.extractLsb' 16 8, w.extractLsb' 8 8, w.extractLsb' 0 8]

/-- The two-byte field of two bytes, most significant first. -/
def halfOf (a b : Byte) : Half := a ++ b

/-- The four-byte field of four bytes, most significant first. -/
def wordOf (a b c d : Byte) : Word := a ++ b ++ c ++ d

/-- A yes/no byte (R45, R177). -/
def byteOfBool (b : Bool) : Byte := if b then 1 else 0

end Sys2Proof

namespace Sys2Proof.Machine

/-- The kinds of one priority, from left to right (R186). -/
def ReportKind.ofPriority : Nat → List ReportKind
  | 7 => [.transmitFault, .duplicateStation, .landingConflict, .liftedInMotion, .pushFault, .driveStall,
          .handoverBroken]
  | 6 => [.moveTimeout, .handoverTimeout, .slabOverhang, .slabDisplaced, .positionFault, .doorFault, .barFault,
          .latePushDone, .lineSilent, .haltOn, .listSuspect, .hearthUnverified, .dischargeUntracked]
  | 5 => [.soakShortfall, .slabLost, .unknownLanding, .unknownPresence, .misrouted, .endOfLine, .lengthMismatch,
          .tooLong, .passingHeld, .offCentreCharge, .listSwitchFailed, .listEntryMissing, .recordDropped,
          .hearthNotIntact, .residenceSaturated, .paceSaturated, .doorLostInRetract, .peerStale, .lineNoisy]
  | 4 => [.outOfSequence, .unlisted, .pairAbandoned, .hearthWait, .permitWait, .permitLost, .strokeClamped,
          .offerUnanswered, .millStopSeen, .haltOff, .paceChanged]
  | 3 => [.offerDeclined, .offerWithdrawn, .incomingWithdrawn, .classDemoted, .chargeReturned, .faultCleared,
          .lineReady, .lineHeard, .peerQualified]
  | 2 => [.landed, .lifted, .arrivedIn, .passedOut, .chargeStarted, .charged, .discharged, .listSwitched]
  | 1 => [.watchHit]
  | _ => []

/-- The kinds in the order of the table of R186. -/
def ReportKind.table : List ReportKind :=
  [7, 6, 5, 4, 3, 2, 1].flatMap ReportKind.ofPriority

/-- The kind code a report carries, from 1 in the table's order (R186). -/
def ReportKind.code (k : ReportKind) : Nat := ReportKind.table.idxOf k + 1

/-- The priority of a kind (R186). -/
def ReportKind.priority (k : ReportKind) : Nat :=
  ([7, 6, 5, 4, 3, 2, 1].find? fun p => (ReportKind.ofPriority p).contains k).getD 0

/-- Kind code of a frame on the yard line (R45). -/
def FrameBody.kindCode : FrameBody → Nat
  | .declare _ => 1
  | .offer _ => 2
  | .accept .. => 3
  | .decline .. => 4
  | .arrived .. => 5
  | .withdraw .. => 6
  | .halt _ => 7
  | .resume => 8

/-- Code of a LIMBO reason, 1 to 5 (R145). -/
def LimboReason.code (r : LimboReason) : Nat := r.ctorIdx + 1

/-- The value a report of hearth integrity carries: 0 UNKNOWN, 1 SUSPECT (R141, R159). -/
def Integrity.reportCode : Integrity → Nat
  | .unknown => 0
  | .suspect => 1
  | .intact => 2

/-- Status code, 1 to 5 (R175). -/
def Status.code (s : Status) : Nat := s.ctorIdx + 1

/-- Reason code, 0 to 9 (R175). -/
def Reason.code (r : Reason) : Nat := r.ctorIdx

end Sys2Proof.Machine
end

