-- ==== Sys2Proof/Machine/LineFrame.lean ====
section
/-! DEFINITION. The byte layout of the yard line's frames (R45, R46), their CRC and the test of a good frame (R44). -/

namespace Sys2Proof.Machine

/-! ## CRC-16 (R44) -/

/-- The CRC register shifted by one bit, with x^16 + x^12 + x^5 + 1 (R44). -/
def crcBit (crc : Half) : Half := if crc.msb then (crc <<< 1) ^^^ 0x1021 else crc <<< 1

/-- The CRC register after one byte, most significant bit first (R44). -/
def crcByte (crc : Half) (b : Byte) : Half :=
  (List.range 8).foldl (fun c _ => crcBit c) (crc ^^^ (b ++ (0 : Byte)))

/-- The CRC of a list of bytes, from an initial value of all ones (R44). -/
def crc16 (bs : List Byte) : Half := bs.foldl crcByte 0xFFFF

/-! ## Payloads (R46) -/

/-- The 17 bytes of a DECLARE (R46). -/
def declarationBytes (d : Declaration) : List Byte :=
  [byteOf d.mode.code, byteOf d.entry.code] ++ bytesOfWord d.entryId ++
  [byteOf d.exit.code, d.doorOccupancy, byteOfBool d.holding] ++ bytesOfHalf d.dreq ++ bytesOfHalf d.davg ++
  bytesOfHalf d.freeLength ++ [d.count, d.faults]

/-- The measured length as an OFFER carries it: 65,535 when absent (R46). -/
def measuredField : Option Half → Half
  | some m => m
  | none => 0xFFFF

/-- Age since landing and landing station as an OFFER carries them: FFFFFFFFh and 0 when absent (R46). -/
def landingField : Option (Word × Byte) → Word × Byte
  | some l => l
  | none => (0xFFFFFFFF, 0)

/-- The 29 bytes of a transfer form (R46). -/
def formBytes (f : TransferForm) : List Byte :=
  bytesOfWord f.id ++ bytesOfHalf f.seq ++ [f.dest] ++ bytesOfHalf f.nominal ++
  bytesOfHalf (measuredField f.measured) ++ bytesOfHalf f.width ++ bytesOfHalf f.thickness ++
  bytesOfHalf f.weight ++ [byteOf f.cls.code, byteOf f.hostClass.code, byteOfBool f.permit] ++
  bytesOfWord f.classAge ++ bytesOfWord (landingField f.landing).1 ++ [(landingField f.landing).2]

/-- The payload of a frame (R46). -/
def payloadBytes : FrameBody → List Byte
  | .declare d => declarationBytes d
  | .offer o => [o.tag, byteOf o.upstreamClass.code] ++ formBytes o.form
  | .accept tag id cls => [tag] ++ bytesOfWord id ++ [byteOf cls.code]
  | .decline tag id reason => [tag] ++ bytesOfWord id ++ [byteOf reason.code]
  | .arrived tag id => [tag] ++ bytesOfWord id
  | .withdraw tag id => [tag] ++ bytesOfWord id
  | .halt reason => [byteOf reason.code]
  | .resume => []

/-- Header and payload of a frame, over which its CRC is taken (R45). -/
def frameHead (f : Frame) : List Byte :=
  [byteOf f.body.kindCode, f.source, f.dest, f.seq, byteOf (payloadBytes f.body).length] ++ payloadBytes f.body

/-- A frame on the wire: header, payload and check bytes (R45). -/
def frameBytes (f : Frame) : List Byte := frameHead f ++ bytesOfHalf (crc16 (frameHead f))

/-! ## Receiving (R44, R46) -/

/-- The declaration of a payload, none when a coded field holds no code (R44, R46). -/
def declarationOfBytes? : List Byte → Option Declaration
  | [m, e, i0, i1, i2, i3, x, o, h, r0, r1, a0, a1, l0, l1, c, z] =>
    match DeclaredMode.ofCode? m.toNat, Summary.ofCode? e.toNat, Summary.ofCode? x.toNat, flagOf? h.toNat with
    | some mode, some entry, some exit, some holding =>
      some ⟨mode, entry, wordOf i0 i1 i2 i3, exit, o, holding, halfOf r0 r1, halfOf a0 a1, halfOf l0 l1, c, z⟩
    | _, _, _, _ => none
  | _ => none

/-- The measured length of its field (R46). -/
def measuredOfField (h : Half) : Option Half := if h = 0xFFFF then none else some h

/-- The paired optional fields: both present or both absent (R44, R46). -/
def landingOfField? (age : Word) (station : Byte) : Option (Option (Word × Byte)) :=
  if age = 0xFFFFFFFF then (if station = 0 then some none else none)
  else if station = 0 then none else some (some (age, station))

/-- The offer of a payload, none when a coded field holds no code or the paired fields disagree (R44, R46). -/
def offerOfBytes? : List Byte → Option Offer
  | [tag, u, i0, i1, i2, i3, q0, q1, d, n0, n1, m0, m1, w0, w1, t0, t1, g0, g1, c, hc, p, a0, a1, a2, a3,
     l0, l1, l2, l3, st] =>
    match MotionClass.ofCode? u.toNat, ChargeClass.ofCode? c.toNat, MotionClass.ofCode? hc.toNat, flagOf? p.toNat,
        landingOfField? (wordOf l0 l1 l2 l3) st with
    | some up, some cls, some host, some permit, some landing =>
      some ⟨tag, up, ⟨wordOf i0 i1 i2 i3, halfOf q0 q1, d, halfOf n0 n1, measuredOfField (halfOf m0 m1),
        halfOf w0 w1, halfOf t0 t1, halfOf g0 g1, cls, host, permit, wordOf a0 a1 a2 a3, landing⟩⟩
    | _, _, _, _, _ => none
  | _ => none

/-- The body of a kind code and a payload (R44, R46). -/
def bodyOfBytes? (kind : Byte) (payload : List Byte) : Option FrameBody :=
  match kind.toNat, payload with
  | 1, bs => (declarationOfBytes? bs).map .declare
  | 2, bs => (offerOfBytes? bs).map .offer
  | 3, [tag, a, b, c, d, x] => (MotionClass.ofCode? x.toNat).map (.accept tag (wordOf a b c d))
  | 4, [tag, a, b, c, d, x] => (DeclineReason.ofCode? x.toNat).map (.decline tag (wordOf a b c d))
  | 5, [tag, a, b, c, d] => some (.arrived tag (wordOf a b c d))
  | 6, [tag, a, b, c, d] => some (.withdraw tag (wordOf a b c d))
  | 7, [x] => (HaltReason.ofCode? x.toNat).map .halt
  | 8, [] => some .resume
  | _, _ => none

/-- The destination rule of a kind: 0 for DECLARE, HALT and RESUME, a station number 1 to 8 for the others (R45). -/
def destRule : FrameBody → Byte → Bool
  | .declare _, d | .halt _, d | .resume, d => d == 0
  | _, d => 1 ≤ d.toNat && d.toNat ≤ 8

/-- The good frame of the bytes the receiver has cut out, none for a frame error (R44). -/
def frameOfBytes? : List Byte → Option Frame
  | kind :: source :: dest :: seq :: len :: rest =>
    let payload := rest.take len.toNat
    if rest.drop len.toNat = bytesOfHalf (crc16 ([kind, source, dest, seq, len] ++ payload)) then
      match bodyOfBytes? kind payload with
      | some body => if destRule body dest then some ⟨source, dest, seq, body⟩ else none
      | none => none
    else none
  | _ => none

/-- The command a good frame gives the station (R48). -/
def Frame.command (f : Frame) : Instr :=
  match f.body with
  | .declare d => .declareReceived ⟨f.source, f.seq⟩ d
  | .offer o => .offerReceived ⟨f.source, f.dest, f.seq⟩ o
  | .accept tag id cls => .acceptReceived ⟨f.source, f.dest, f.seq⟩ tag id cls
  | .decline tag id reason => .declineReceived ⟨f.source, f.dest, f.seq⟩ tag id reason
  | .arrived tag id => .arrivedReceived ⟨f.source, f.dest, f.seq⟩ tag id
  | .withdraw tag id => .withdrawReceived ⟨f.source, f.dest, f.seq⟩ tag id
  | .halt reason => .haltReceived ⟨f.source, f.seq⟩ reason
  | .resume => .resumeReceived ⟨f.source, f.seq⟩

end Sys2Proof.Machine
end

