-- ==== Sys2Proof/Machine/Ops.lean ====
section
/-! DEFINITION. The named operations over the state that every block uses: queueing reports (R183), records of the
pool (R2, R8, R9, R10), watch hits (R14), entries of the zone map (R17) and the clock. -/

namespace Sys2Proof.Machine

/-- The outcome of a command or a step. -/
abbrev Result := Host.Outcome State Fault Refusal

/-! ## Reports (R183) -/

/-- A report's value, signed 32 bits (R183); outside that range the spec states none (log 12). -/
def reportValue (v : Int) : Int :=
  if -2147483648 ≤ v ∧ v ≤ 2147483647 then v else Config.reportValueOutOfRange v

/-- The youngest report gains the LOST_AFTER mark and its lost count rises, saturating at 65,535 (R183). -/
def markLost : List Report → List Report
  | [] => []
  | [r] => [{ r with lostAfter := true, lost := min (r.lost + 1) 65535 }]
  | r :: r' :: rs => r :: markLost (r' :: rs)

/-- A report joins the queue, or is discarded with a mark on the youngest when the queue holds 32; its number is
taken in both cases (R183). -/
def ControlPort.enqueue (p : ControlPort) (r : Report) : ControlPort :=
  if p.reports.length < 32 then
    { p with reports := p.reports ++ [r], nextNumber := p.nextNumber + 1 }
  else
    { p with reports := markLost p.reports, nextNumber := p.nextNumber + 1 }

/-- A block queues a report (R183). -/
def State.report (s : State) (kind : ReportKind) (zone : Option Nat := none) (slab : Option Nat := none)
    (value : Option Int := none) : State :=
  let r : Report :=
    { number := s.port.nextNumber, time := s.clk.seconds, kind := kind, zone := zone, slab := slab,
      value := value.map reportValue }
  { s with port := s.port.enqueue r }

/-! ## Clock -/

/-- The seconds counter as an exact number, unsigned (00_scope.md, Time). -/
def State.now (s : State) : Int := (s.clk.seconds.toNat : Int)

/-- A stamp on the seconds counter's scale, signed 32 bits (R1, R153); outside that range the spec states none
(log 11). -/
def signedStamp (v : Int) : Int :=
  if -2147483648 ≤ v ∧ v ≤ 2147483647 then v else Config.stampOutOfRange v

/-- The station is started: START has succeeded and its reconciliation is done (R179). -/
def State.started (s : State) : Bool := s.phase == .started

/-! ## Records -/

/-- A hold reason is in the set. -/
def Holds.has (h : Holds) : HoldReason → Bool
  | .host => h.host
  | .lengthMismatch => h.lengthMismatch
  | .misrouted => h.misrouted
  | .endOfLine => h.endOfLine
  | .outOfSequence => h.outOfSequence
  | .unlisted => h.unlisted
  | .tooLong => h.tooLong

/-- The set with a reason added or removed (R9). -/
def Holds.put (h : Holds) (r : HoldReason) (b : Bool) : Holds :=
  match r with
  | .host => { h with host := b }
  | .lengthMismatch => { h with lengthMismatch := b }
  | .misrouted => { h with misrouted := b }
  | .endOfLine => { h with endOfLine := b }
  | .outOfSequence => { h with outOfSequence := b }
  | .unlisted => { h with unlisted := b }
  | .tooLong => { h with tooLong := b }

/-- The reasons in the order of R9. -/
def HoldReason.all : List HoldReason :=
  [.host, .lengthMismatch, .misrouted, .endOfLine, .outOfSequence, .unlisted, .tooLong]

/-- The set as a list, in the order of R9. -/
def Holds.toList (h : Holds) : List HoldReason := HoldReason.all.filter h.has

/-- The set is not empty. -/
def Holds.any (h : Holds) : Bool :=
  h.host || h.lengthMismatch || h.misrouted || h.endOfLine || h.outOfSequence || h.unlisted || h.tooLong

/-- Base motion class: the host's class raised for a heavy slab (R10). -/
def baseClassOf (host : MotionClass) (weight heavyKg : Nat) : MotionClass :=
  MotionClass.max host (if weight > heavyKg then .reduced else .run)

/-- Own motion class: HELD while a hold reason stands (R10). -/
def Record.ownClass (r : Record) : MotionClass :=
  MotionClass.max r.baseClass (if r.holds.any then .held else .run)

/-- The slab's length: measured if present, nominal otherwise (R1). -/
def Record.length (r : Record) : Nat := r.measured.getD r.nominal

/-- The record of a slab ID, if the pool holds it. -/
def RecordStore.find? (st : RecordStore) (id : Nat) : Option Record :=
  st.pool.find? fun r => r.id == id

/-- The record of a slab ID, if the pool holds it. -/
def State.record? (s : State) (id : Nat) : Option Record := s.store.find? id

/-- The pool with one record changed in place. -/
def RecordStore.modify (st : RecordStore) (id : Nat) (f : Record → Record) : RecordStore :=
  { st with pool := st.pool.map fun r => if r.id = id then f r else r }

/-- Change one record of the pool in place. -/
def State.modRecord (s : State) (id : Nat) (f : Record → Record) : State :=
  { s with store := s.store.modify id f }

/-- Add a record to the pool (R2). -/
def State.addRecord (s : State) (r : Record) : State :=
  { s with store := { s.store with pool := s.store.pool ++ [r] } }

/-- Add or remove a hold reason of a record (R9). -/
def State.setHold (s : State) (id : Nat) (reason : HoldReason) (b : Bool) : State :=
  s.modRecord id fun r => { r with holds := r.holds.put reason b }

/-- The record holds the reason. -/
def State.holds (s : State) (id : Nat) (reason : HoldReason) : Bool :=
  match s.record? id with
  | some r => r.holds.has reason
  | none => false

/-- Class age of a record: the seconds counter minus the class stamp (R1). -/
def State.classAge (s : State) (r : Record) : Int := s.now - r.classStamp

/-- Age since landing, absent while the landing time is absent (R1). -/
def State.landingAge (s : State) (r : Record) : Option Int := r.landing.map fun l => s.now - l.1

/-- Delete a record: its place is freed, its handle leaves the zone map in the same step (R8), and a track of it is
removed (R115). -/
def State.delRecord (s : State) (id : Nat) : State :=
  { s with
    store := { s.store with pool := s.store.pool.filter fun r => r.id != id }
    zones := s.zones.map fun z =>
      { z with
        occ := z.occ.filter (· != id)
        expected := if z.expected = some id then none else z.expected }
    door := { s.door with tracks := s.door.tracks.filter fun t => t.id != id } }

/-- The slab ID stands in the hearth record (R3). -/
def Hearth.holdsId (h : Hearth) (id : Nat) : Bool :=
  h.positions.any fun p => p.slabs.any fun x => x.id == id

/-- The checks of R3 before a record is created: DUPLICATE, then FULL. -/
def State.poolRefusal (s : State) (id : Nat) : Option Reason :=
  if (s.record? id).isSome || s.hearth.holdsId id then some .duplicate
  else if s.store.pool.length ≥ 12 then some .full
  else none

/-- A watch slot holds the slab ID (R13). -/
def RecordStore.watched (st : RecordStore) (id : Nat) : Bool :=
  st.watch1 == some id || st.watch2 == some id

/-- A hit point's event concerns the slab: WATCH_HIT with the hit point's number when the ID is watched (R14). -/
def State.watchHit (s : State) (id : Nat) (zone : Option Nat) (point : Nat) : State :=
  if s.store.watched id then s.report .watchHit zone (some id) (some point) else s

/-! ## Zones -/

/-- The entry of zone `k` of the zone map (R17). -/
def State.zone (s : State) (k : Nat) : Zone := s.zones.getD k {}

/-- The zone map has an entry `k`. -/
def State.hasZone (s : State) (k : Nat) : Bool := decide (k < s.zones.length)

/-- Replace the entry of zone `k`. -/
def State.setZone (s : State) (k : Nat) (z : Zone) : State := { s with zones := s.zones.set k z }

/-- Change the entry of zone `k`. -/
def State.modZone (s : State) (k : Nat) (f : Zone → Zone) : State := s.setZone k (f (s.zone k))

/-- The exit zone's index, ZONE_COUNT − 1 (R17). -/
def State.exitZone (s : State) : Nat := s.zones.length - 1

/-- Zone `k` is the door zone (R17). -/
def State.isDoor (s : State) (k : Nat) : Bool := s.params.hasFurnace && k == s.params.doorZone

/-- Zone `k` is the approach zone (R17). -/
def State.isApproach (s : State) (k : Nat) : Bool := s.params.hasFurnace && k + 1 == s.params.doorZone

/-- The door zone's entry. -/
def State.doorEntry (s : State) : Zone := s.zone s.params.doorZone

/-- The zone's input pins. -/
def State.zonePins (s : State) (k : Nat) : ZonePins := s.pins.zones.getD k {}

/-- Change the input pins of zone `k`. -/
def State.modPins (s : State) (k : Nat) (f : ZonePins → ZonePins) : State :=
  { s with pins := { s.pins with zones := s.pins.zones.set k (f (s.zonePins k)) } }

/-- A zone is FREE with nothing of a move left in it (R18). -/
def Zone.freed (z : Zone) : Zone :=
  { z with state := .free, fault := none, occ := [], expected := none, departing := false, handleMoved := false,
           runOnGranted := false, restPassed := false, claim := none, timer := none, heldReported := false }

/-- A zone is OCCUPIED at rest with the occupants it has (R18). -/
def Zone.rested (z : Zone) : Zone :=
  { z with state := .occupied, fault := none, departing := false, handleMoved := false,
           runOnGranted := false, restPassed := false, claim := none, timer := none }

/-- A zone is at rest as an OCCUPIED one: not departing (R18). -/
def Zone.atRest (z : Zone) : Bool := z.state == .occupied && !z.departing

/-- The zone shows presence: its entry or rest sensor is high, or its landing input if it is a landing zone (R21). -/
def State.presence (s : State) (k : Nat) : Bool :=
  let p := s.zonePins k
  p.entry || p.rest || ((s.zone k).landing && p.landing)

/-- The zone a record belongs to: the one it occupies, the one it is announced against, or the entry zone (R16). -/
def State.zoneOf (s : State) (r : Record) : Option Nat :=
  match r.status with
  | .live => s.zones.findIdx? fun z => z.occ.contains r.id
  | .expected => s.zones.findIdx? fun z => z.expected == some r.id
  | .incoming => some 0

/-- The incoming crossing ends: its INCOMING record is deleted and the context returns to NONE (R79, R81, R82). -/
def State.dropIncoming (s : State) : State :=
  if s.inc.state = .idle then s
  else { s.delRecord s.inc.slab with inc := {} }

/-- A free value is taken: the index of the next one advances (log 10). -/
def State.nextFree (s : State) : State := { s with freeIx := s.freeIx + 1 }

end Sys2Proof.Machine
end

