-- ==== Sys2Proof/Machine/Flags.lean ====
section
/-! DEFINITION. What the station's state gives at its connections and to its blocks without being stored: motion
classes (R10, R22, R24, R72), drive and door group outputs (R23, R118), door, push, line and port outputs (R139, R42,
R176, R185), the zone summaries and the fields of a declaration (R40, R53). -/

namespace Sys2Proof.Machine

/-! ## Motion classes -/

/-- The station class: HELD outside RUN, CREEP in the resume creep period, RUN otherwise (R22). -/
def State.stationClass (s : State) : MotionClass :=
  if s.line.mode = .run then (if s.creep.isSome then .creep else .run) else .held

/-- The effective motion class of a slab in zone `k` (R22). -/
def State.effClass (s : State) (id k : Nat) : MotionClass :=
  let own := match s.record? id with
    | some r => r.ownClass
    | none => .run
  MotionClass.max own (MotionClass.max (s.zone k).zoneClass s.stationClass)

/-- The move class of a slab between zones `k` and `k + 1` (R24). -/
def State.pairClass (s : State) (id k : Nat) : MotionClass :=
  MotionClass.max (s.effClass id k) (s.effClass id (k + 1))

/-- The class of a move between zones `k` and `k + 1` whose slab may have gone: without one, the zones' classes and the
station's bind it alone (R22, R24, R26, log 67). -/
def State.moveClass (s : State) (slab : Option Nat) (k : Nat) : MotionClass :=
  match slab with
  | some id => s.pairClass id k
  | none => MotionClass.max (MotionClass.max (s.zone k).zoneClass (s.zone (k + 1)).zoneClass) s.stationClass

/-- The slab that leaves or last entered zone `k`: its upstream-most occupant. -/
def State.lastIn (s : State) (k : Nat) : Option Nat := (s.zone k).occ.getLast?

/-- Zone `k` is receiving a slab that has been granted run-on into zone `k + 1`, which the grant keeps RESERVED: a
reservation that another slab's move has left behind is no grant to this one (R25, R27, R124, log 34). -/
def State.runOn (s : State) (k : Nat) : Bool :=
  (s.zone k).state == .receiving && (s.zone k).handleMoved && (s.zone k).runOnGranted &&
  (s.zone (k + 1)).state == .reserved

/-- Zone `k - 1` takes part in the move into zone `k`: departing, SENDING, or running on (R25, R27). -/
def State.senderMoves (s : State) (k : Nat) : Bool :=
  k != 0 && ((s.zone (k - 1)).departing || (s.zone (k - 1)).state == .sending || s.runOn (k - 1))

/-- The upstream crossing class (R72). -/
def State.outClass (s : State) : MotionClass :=
  MotionClass.max s.out.downClass (s.effClass s.out.slab s.exitZone)

/-- The downstream crossing class (R72). -/
def State.inClass (s : State) : MotionClass :=
  MotionClass.max s.inc.upClass (s.effClass s.inc.slab 0)

/-- The outgoing crossing has started and holds the exit zone SENDING (R73). -/
def State.crossingOut (s : State) (k : Nat) : Bool :=
  k == s.exitZone && s.out.state == .runningOut && (s.zone k).state == .sending

/-- The incoming crossing holds the entry zone (R71, R75). -/
def State.crossingIn (s : State) (k : Nat) : Bool := k == 0 && s.inc.state != .idle

/-- The slab whose move has claimed zone `k`, while it lies in zone `k - 1`: another slab that has come to lie there is
not in the move, and its class neither drives nor freezes it (R24, R26, log 67). -/
def State.claimant (s : State) (k : Nat) : Option Nat :=
  (s.zone k).claim.filter fun id => (s.zone (k - 1)).occ.contains id

/-- The class of the move that zone `k` serves, HELD when it serves none (R24, R26, R72). -/
def State.serveClass (s : State) (k : Nat) : MotionClass :=
  match (s.zone k).state with
  | .reserved | .receiving =>
    if s.crossingIn k then s.inClass
    else if (s.zone k).handleMoved then
      match s.lastIn k with
      | none => .held
      | some id => if s.runOn k then s.pairClass id k else s.effClass id k
    else s.moveClass (s.claimant k) (k - 1)
  | .occupied => if (s.zone k).departing then s.moveClass (s.lastIn k) k else .held
  | .sending => if s.crossingOut k then s.outClass else s.moveClass (s.lastIn k) k
  | _ => .held

/-! ## Drives -/

/-- The class at which zone `k`'s drive runs; HELD is off (R23, R74). -/
def State.zoneDrive (s : State) (k : Nat) : MotionClass :=
  let z := s.zone k
  if s.line.mode ≠ .run then .held
  else match z.state with
    | .reserved => if s.crossingIn k || s.senderMoves k then s.serveClass k else .held
    | .receiving => if s.crossingIn k || z.handleMoved || s.senderMoves k then s.serveClass k else .held
    | .occupied => if z.departing then s.serveClass k else .held
    | .sending => if s.crossingOut k && s.out.exitClear then .held else s.serveClass k
    | _ => .held

/-- Drive run, speed select 1 and speed select 2 of a drive running at a class (R23). -/
def driveLines : MotionClass → Bool × Bool × Bool
  | .run => (true, false, false)
  | .reduced => (true, true, false)
  | .creep => (true, false, true)
  | .held => (false, false, false)

/-! ## Door tracking and groups -/

/-- A track of the door zone context by slab ID. -/
def Door.find? (d : Door) (id : Nat) : Option Track := d.tracks.find? fun t => t.id == id

/-- Tracked position in millimetres: floor(count × 1,000 / ENC_PPM), clamped to 0 to Z (R117). -/
def trackPosition (p : Params) (t : Track) : Nat :=
  min (t.count.toNat * 1000 / p.encPpm) p.doorLength

/-- The length of a slab of the pool, 0 for one it does not hold. -/
def State.lengthOf (s : State) (id : Nat) : Nat :=
  match s.record? id with
  | some r => r.length
  | none => 0

/-- A slab moved from position `pos` toward `target` passes over the group's part of the zone (R118). The slab's
extent runs from its leading edge `len` upstream; the near part is 0 to A, the far part A to Z. A pair second that lies
past A and is corrected in reverse runs the far group too: R118's general sentence is followed there, and not its
line on a pair second whose placement stays before A (log 70). -/
def groupCarries (axis pos len target : Nat) (dir : Direction) : Group → Bool
  | .near =>
    match dir with
    | .forward => decide (pos < axis + len)
    | .reverse => decide (target < axis + len)
  | .far =>
    match dir with
    | .forward => decide (axis < target)
    | .reverse => decide (axis < pos)

/-- The group carries the slab of the track in a move in a direction (R118). -/
def State.groupWanted (s : State) (t : Track) (dir : Direction) (g : Group) : Bool :=
  groupCarries s.params.doorAxis (trackPosition s.params t) (s.lengthOf t.id) (t.target.getD 0) dir g

/-- Class and direction at which a door group runs, none while it is off (R118, R124, R128, R129). -/
def State.groupDrive (s : State) (g : Group) : Option (MotionClass × Direction) :=
  let dz := s.params.doorZone
  if !s.params.hasFurnace || s.line.mode ≠ .run || (s.zone dz).state = .fault then none
  else match s.door.placing with
    | none =>
      let c := s.zoneDrive dz
      if c = .held then none else some (c, .forward)
    | some id =>
      match s.door.find? id with
      | none => none
      | some t =>
        let eff := s.effClass id dz
        match s.door.phase with
        | .idle | .stopping => none
        | .entry =>
          let c := s.zoneDrive dz
          if c ≠ .held && s.groupWanted t .forward g then some (c, .forward) else none
        | .approach =>
          if eff ≠ .held && s.groupWanted t .forward g then some (MotionClass.max .creep eff, .forward) else none
        | .correcting d =>
          if eff ≠ .held && s.groupWanted t d g then some (.creep, d) else none

/-- The group's drive run output is on (R118). -/
def State.groupOn (s : State) (g : Group) : Bool := (s.groupDrive g).isSome

/-! ## Door, push, line and port outputs -/

/-- DOOR_OPEN_CMD (R139); off until START (R137), which is taken as the end of its reconciliation, also for a LIMBO that a
warm reset has left (log 72). -/
def State.doorOpenCmd (s : State) : Bool :=
  s.started &&
  (match s.cycle.state with
   | .doorOpening | .pushing | .retracting | .limbo => true
   | _ => false)

/-- PUSH_CMD: on only while the cycle is PUSHING, DOOR_OPEN is active and the mode is RUN (R94, R139). -/
def State.pushCmd (s : State) : Bool :=
  s.cycle.state == .pushing && s.pins.doorOpen && s.line.mode == .run

/-- TXEN is raised while an attempt is in progress (R42). -/
def State.txen (s : State) : Bool := s.line.attempt.isSome

/-- RDY is high while a response is held (R176). -/
def State.rdy (s : State) : Bool :=
  match s.port.state with
  | .answered _ => true
  | _ => false

/-- ALERT# is driven low: the queue holds a report whose priority exceeds the alert level (R185). -/
def ControlPort.alertDriven (p : ControlPort) : Bool :=
  p.reports.any fun r => decide (p.alertLevel < r.kind.priority)

/-- ALERT# is driven low (R185). -/
def State.alertLow (s : State) : Bool := s.port.alertDriven

/-! ## Summaries and the declaration -/

/-- The summary of a zone as a declaration gives it (R40). A door zone with two occupants is BLOCKED when either of them
is HELD (DESIGN CHOICE, log 79). -/
def State.summary (s : State) (k : Nat) : Summary :=
  let z := s.zone k
  if z.state = .free then .free
  else if z.state = .fault || z.state = .unknown || z.occ.any (fun id => s.effClass id k == .held) then .blocked
  else .busy

/-- The number of zones in FAULT (R40). -/
def State.faultCount (s : State) : Nat := (s.zones.filter fun z => z.state == .fault).length

/-- The station holds an own halt cause (R53, R91). -/
def Causes.any (c : Causes) : Bool := c.host || c.estop || c.landingConflict || c.liftedInMotion

/-- The mode as a declaration carries it (R53). -/
def Mode.declared : Mode → DeclaredMode
  | .run => .run
  | .halted => .halted
  | _ => .listening

/-- The fields of a DECLARE built from the state as it stands (R53). -/
def State.declaration (s : State) : Declaration where
  mode := s.line.mode.declared
  entry := s.summary 0
  entryId := BitVec.ofNat 32 ((s.zone 0).occ.head?.getD 0)
  exit := s.summary s.exitZone
  doorOccupancy := if s.params.hasFurnace then byteOf s.doorEntry.occ.length else 0
  holding := s.halt.causes.any
  dreq := BitVec.ofNat 16 s.pace.dreq
  davg := BitVec.ofNat 16 s.pace.davg
  freeLength := if s.params.hasFurnace then BitVec.ofNat 16 (s.params.hearthLength - s.hearth.fill) else 0
  count := if s.params.hasFurnace then byteOf s.hearth.count else 0
  faults := byteOf s.faultCount

end Sys2Proof.Machine
end

