-- ==== Sys2Proof/Machine/LineOps.lean ====
section
/-! DEFINITION. The Line Interface's operations (Chapter 3): transmit slots and attempts, declarations, the
qualification window, the ready rule, isolation and the peer table. -/

namespace Sys2Proof.Machine

/-- A 16-bit count that saturates at 65,535 (R44, R48, R50, R60). -/
def satSucc (n : Nat) : Nat := min (n + 1) 65535

/-! ## Transmit slots (R51) -/

/-- The station may transmit: LISTENING with its window passed, RUN and HALTED (R51). -/
def LineInterface.mayTransmit (l : LineInterface) : Bool :=
  match l.mode with
  | .run | .halted => true
  | .listening => l.stage == .passed
  | _ => false

/-- A frame placed into a slot replaces an unsent one and keeps its earlier fill time (R51). -/
def refill {α : Type} (old : Option (Filled α)) (x : α) (moment : Nat) : Option (Filled α) :=
  some ⟨x, match old with
    | some f => f.fill
    | none => moment⟩

/-- The slots with a frame placed in one of them (R51). -/
def Slots.put (sl : Slots) (k : SlotKind) (b : FrameBody) (moment : Nat) : Slots :=
  match k with
  | .lineHalt => { sl with lineHalt := refill sl.lineHalt b moment }
  | .declare => { sl with declare := refill sl.declare () moment }
  | .offer => { sl with offer := refill sl.offer b moment }
  | .withdraw => { sl with withdraw := refill sl.withdraw b moment }
  | .accept => { sl with accept := refill sl.accept b moment }
  | .decline => { sl with decline := refill sl.decline b moment }
  | .arrived => { sl with arrived := refill sl.arrived b moment }

/-- The slots with one of them emptied. -/
def Slots.clear (sl : Slots) : SlotKind → Slots
  | .lineHalt => { sl with lineHalt := none }
  | .declare => { sl with declare := none }
  | .offer => { sl with offer := none }
  | .withdraw => { sl with withdraw := none }
  | .accept => { sl with accept := none }
  | .decline => { sl with decline := none }
  | .arrived => { sl with arrived := none }

/-- The fill time of a slot that holds a frame. -/
def Slots.fill? (sl : Slots) : SlotKind → Option Nat
  | .lineHalt => sl.lineHalt.map (·.fill)
  | .declare => sl.declare.map (·.fill)
  | .offer => sl.offer.map (·.fill)
  | .withdraw => sl.withdraw.map (·.fill)
  | .accept => sl.accept.map (·.fill)
  | .decline => sl.decline.map (·.fill)
  | .arrived => sl.arrived.map (·.fill)

/-- The frame a slot holds; a pending DECLARE is built from the given fields (R51, R53). -/
def Slots.body? (sl : Slots) (d : Declaration) : SlotKind → Option FrameBody
  | .lineHalt => sl.lineHalt.map (·.content)
  | .declare => sl.declare.map fun _ => .declare d
  | .offer => sl.offer.map (·.content)
  | .withdraw => sl.withdraw.map (·.content)
  | .accept => sl.accept.map (·.content)
  | .decline => sl.decline.map (·.content)
  | .arrived => sl.arrived.map (·.content)

/-- The slots after the line halt slot, in the order of R51. -/
def SlotKind.ordinary : List SlotKind := [.declare, .offer, .withdraw, .accept, .decline, .arrived]

/-- The better of a pick and a slot: an earlier fill time wins, the one standing higher keeps a tie (R51). -/
def Slots.better (sl : Slots) (best : Option (SlotKind × Nat)) (k : SlotKind) : Option (SlotKind × Nat) :=
  match sl.fill? k, best with
  | none, _ => best
  | some f, none => some (k, f)
  | some f, some (_, g) => if f < g then some (k, f) else best

/-- The slot picked for an attempt: the line halt slot when it holds a frame, otherwise the earliest fill time, and
among equals the one standing higher in the table of R51. -/
def Slots.pick (sl : Slots) : Option SlotKind :=
  if sl.lineHalt.isSome then some .lineHalt
  else (SlotKind.ordinary.foldl sl.better none).map (·.1)

/-- A frame is placed in a slot; where the station may not transmit it is discarded at once (R51). -/
def State.place (s : State) (k : SlotKind) (b : FrameBody) : State :=
  if s.line.mayTransmit then
    { s with line := { s.line with slots := s.line.slots.put k b s.line.moment } }
  else s

/-- The DECLARE slot is marked pending: the period timer restarts and the hold-off of 20 ms begins (R52). -/
def LineInterface.mark (l : LineInterface) : LineInterface :=
  { l with
    slots := { l.slots with declare := match l.slots.declare with
      | some f => some f
      | none => some ⟨(), l.moment⟩ }
    period := some 250
    holdoff := some 20 }

/-- Declaration starts: the DECLARE slot is marked pending at that moment (R52). -/
def LineInterface.startDeclaring (l : LineInterface) : LineInterface := { l with declaring := true }.mark

/-- The fields the line has last been given: those of the DECLARE in flight, else of the last one completed
(R53, log 19). -/
def LineInterface.inFlight (l : LineInterface) : Option Declaration :=
  match l.attempt with
  | some a => match a.frame.body with
    | .declare d => some d
    | _ => none
  | none => none

/-- A declared field differs from the last DECLARE that completed, and no DECLARE in flight carries it (R52, R53). -/
def State.declarationDue (s : State) : Bool :=
  s.line.declaring && s.line.mayTransmit && s.line.slots.declare.isNone &&
  s.line.lastDeclared != some s.declaration && s.line.inFlight != some s.declaration

/-- A change of a declared field marks the DECLARE slot at once when 20 ms have passed since the last marking, and
otherwise waits for them (R52). -/
def State.syncDeclare (s : State) : State :=
  if s.declarationDue ∧ s.line.holdoff = none then { s with line := s.line.mark } else s

/-! ## Attempts (R49, R50) -/

/-- The idle gap in bit times required before the next attempt (R49, R50). -/
def State.requiredGap (s : State) : Nat :=
  if s.line.backoff then 60 + s.params.stationNo * 24 else 60

/-- The destination of a body: all stations, or the neighbour across its boundary (R45, R51). -/
def State.destOf (s : State) : FrameBody → Byte
  | .declare _ | .halt _ | .resume => 0
  | .offer _ | .withdraw .. => byteOf (s.params.downstream.getD 0)
  | .accept .. | .decline .. | .arrived .. => byteOf (s.params.upstream.getD 0)

/-- The attempt the transmitter begins with the picked slot's frame, which leaves its slot (R47, R51). -/
def State.beginAttempt (s : State) : State :=
  match s.line.slots.pick with
  | none => s
  | some k =>
    match s.line.slots.body? s.declaration k, s.line.slots.fill? k with
    | some b, some f =>
      let frame : Frame := ⟨byteOf s.params.stationNo, s.destOf b, s.line.txSeq, b⟩
      { s with line := { s.line with slots := s.line.slots.clear k, attempt := some ⟨k, frame, f, false⟩ } }
    | _, _ => s

/-- The frame of an aborted attempt returns to its slot with its earlier fill time, unless the slot has been filled
meanwhile or the OFFER has been withdrawn (R51, R78). -/
def Slots.giveBack (sl : Slots) (a : Attempt) : Slots :=
  if a.withdrawn || (sl.fill? a.slot).isSome then sl
  else sl.put a.slot a.frame.body a.fill

/-! ## Modes, window and ready rule (R54 to R59) -/

/-- The station enters ISOLATED with a cause: every slot is emptied, an attempt in progress is cut off, and the
declaration, window and silence timers stop (R51, R52, R54). -/
def LineInterface.isolate (l : LineInterface) (cause : Isolation) : LineInterface :=
  { l with mode := .isolated, isolation := some cause, slots := {}, attempt := none, declaring := false,
           period := none, holdoff := none, windowTimer := none, silence := none }

/-- The station enters ISOLATED; a creep period ends with RUN (R54, R85). -/
def State.isolate (s : State) (cause : Isolation) : State :=
  { s with line := s.line.isolate cause, creep := none }

/-- A qualification window opens with its listen half; with no other member it is taken as passed (R55, R56). -/
def State.openWindow (s : State) : State :=
  if s.params.others = [] then
    { s with line := { s.line with stage := .passed, windowTimer := none, tally := 0 }.startDeclaring }
  else
    { s with line := { s.line with stage := .listen, windowTimer := some 1000, tally := 0 } }

/-- The entry of a station in the peer table. -/
def LineInterface.peer? (l : LineInterface) (n : Nat) : Option Peer := l.peers.find? fun p => p.station == n

/-- The station's entry is QUALIFIED. -/
def LineInterface.qualified (l : LineInterface) (n : Nat) : Bool :=
  match l.peer? n with
  | some p => p.state == .qualified
  | none => false

/-- The number of QUALIFIED peers. -/
def LineInterface.qualifiedCount (l : LineInterface) : Nat := (l.peers.filter fun p => p.state == .qualified).length

/-- The ready rule holds (R57). -/
def State.readyRule (s : State) : Bool :=
  if s.params.readyNeighbours then
    (s.params.upstream.toList ++ s.params.downstream.toList).all s.line.qualified
  else s.params.others.all s.line.qualified

/-- The silence timer runs in RUN and HALTED while the member set holds another station (R59). -/
def State.restartSilence (s : State) : State :=
  if (s.line.mode = .run ∨ s.line.mode = .halted) ∧ s.params.others ≠ [] then
    { s with line := { s.line with silence := some 1000 } }
  else s

/-- When the ready rule first holds in LISTENING with the window passed, the station enters RUN, or HALTED when the
halt set is not empty, and queues LINE_READY with the number of QUALIFIED peers (R57). -/
def State.leaveListening (s : State) : State :=
  if s.line.mode = .listening ∧ s.line.stage = .passed ∧ s.readyRule then
    ({ s with line := { s.line with mode := if s.halt.holders = [] then .run else .halted } }.restartSilence).report
      .lineReady (value := some s.line.qualifiedCount)
  else s

/-- The 16th consecutive collision: the frame is discarded, TRANSMIT_FAULT is queued and the station enters ISOLATED
(R50). -/
def State.transmitFault (s : State) (a : Attempt) : State :=
  ({ s with line := { s.line with attempt := none } }.report .transmitFault
    (value := some a.frame.body.kindCode)).isolate .transmitFault

/-! ## Peer table (R60 to R63) -/

/-- The frame's sequence is not the last one plus 1, modulo 256; a frame from an ABSENT entry shows no gap (R62,
log 20). -/
def Peer.gap (p : Peer) (seq : Byte) : Bool :=
  match p.state, p.lastSeq with
  | .absent, _ => false
  | _, none => false
  | _, some last => seq != last + 1

/-- Change an entry's state, setting its status-changed flag when it differs (R61). -/
def Peer.moveTo (p : Peer) (st : PeerState) : Peer :=
  { p with state := st, changed := p.changed || p.state != st }

/-- The sequence of a good frame is taken, and a gap is counted (R62). -/
def Peer.takeSeq (p : Peer) (seq : Byte) : Peer :=
  { p with lastSeq := some seq, gaps := if p.gap seq then satSucc p.gaps else p.gaps }

/-- A good frame other than a DECLARE: a gap sets the consecutive count of a HEARD entry to 0 (R62). -/
def Peer.heardFrame (p : Peer) (seq : Byte) : Peer :=
  { p.takeSeq seq with consecutive := if p.state = .heard ∧ p.gap seq then 0 else p.consecutive }

/-- A good DECLARE: the declaration is kept, the age returns to 0, and the state moves as R61's table gives it. -/
def Peer.heardDeclare (p : Peer) (seq : Byte) (d : Declaration) : Peer :=
  let q := { p.takeSeq seq with last := some d, age := some 0 }
  match p.state with
  | .absent | .stale => { q.moveTo .heard with consecutive := 1 }
  | .heard =>
    if p.gap seq then { q with consecutive := 1 }
    else if p.consecutive + 1 ≥ 3 then { q.moveTo .qualified with consecutive := 3 }
    else { q with consecutive := p.consecutive + 1 }
  | .qualified => q

/-- The age reaches 1,000 ms: the entry becomes STALE (R63). -/
def Peer.goStale (p : Peer) : Peer :=
  { p.moveTo .stale with consecutive := 0, age := p.age.map (max 1000) }

/-- Change the entry of a station in the peer table. -/
def State.modPeer (s : State) (n : Nat) (f : Peer → Peer) : State :=
  { s with line := { s.line with peers := s.line.peers.map fun p => if p.station = n then f p else p } }

end Sys2Proof.Machine
end

