-- ==== Sys2Proof/Machine/HaltOps.lean ====
section
/-! DEFINITION. The Halt Unit's operations (Chapter 5): the halt set with its reports, the own causes with the frames
they send, and the mode between RUN and HALTED. -/

namespace Sys2Proof.Machine

/-- S of R90: the sum of 2^(m−1) over the holders. -/
def holderSum (hs : List Nat) : Nat := (hs.map fun m => 2 ^ (m - 1)).sum

/-- The value of HALT_ON and HALT_OFF for station `n` and the set after the change (R90). -/
def haltValue (n : Nat) (hs : List Nat) : Nat := 256 * n + holderSum hs

/-- A station number put into the set, kept in increasing order. -/
def insertHolder (n : Nat) : List Nat → List Nat
  | [] => [n]
  | m :: ms => if n < m then n :: m :: ms else m :: insertHolder n ms

/-- The mode follows the halt set (R93): RUN becomes HALTED, ending a creep period (R22); HALTED becomes RUN with the
resume creep period (R98). In the other modes it stands. -/
def State.followHalt (s : State) : State :=
  if s.line.mode = .run ∧ s.halt.holders ≠ [] then
    { s with line := { s.line with mode := .halted }, creep := none }
  else if s.line.mode = .halted ∧ s.halt.holders = [] then
    { s with line := { s.line with mode := .run },
             creep := if s.params.resumeCreep = 0 then none else some (s.params.resumeCreep * 1000) }
  else s

/-- The halt set replaced, with the mode following it in the same step. -/
def State.withHolders (s : State) (hs : List Nat) : State :=
  { s with halt := { s.halt with holders := hs } }.followHalt

/-- Station `n` is added to the halt set; one already present leaves it and queues nothing (R89, R90). -/
def State.addHolder (s : State) (n : Nat) : State :=
  if s.halt.holders.contains n then s
  else
    let hs := insertHolder n s.halt.holders
    (s.withHolders hs).report .haltOn (value := some (haltValue n hs))

/-- Station `n` is removed from the halt set; an absent one leaves it and queues nothing (R89, R90). -/
def State.removeHolder (s : State) (n : Nat) : State :=
  if s.halt.holders.contains n then
    let hs := s.halt.holders.filter (· != n)
    (s.withHolders hs).report .haltOff (value := some (haltValue n hs))
  else s

/-- A cause is in the set of own causes (R91). -/
def Causes.has (c : Causes) : HaltReason → Bool
  | .host => c.host
  | .estop => c.estop
  | .landingConflict => c.landingConflict
  | .liftedInMotion => c.liftedInMotion

/-- The own causes with one added or removed (R91). -/
def Causes.put (c : Causes) (r : HaltReason) (b : Bool) : Causes :=
  match r with
  | .host => { c with host := b }
  | .estop => { c with estop := b }
  | .landingConflict => { c with landingConflict := b }
  | .liftedInMotion => { c with liftedInMotion := b }

/-- The own causes as a list, in the order of R91. -/
def Causes.toList (c : Causes) : List HaltReason :=
  [HaltReason.host, .estop, .landingConflict, .liftedInMotion].filter c.has

/-- An own cause is added: the first puts the station into its own set and places a HALT with its reason; a later one
changes neither (R92). -/
def State.addCause (s : State) (r : HaltReason) : State :=
  let t := { s with halt := { s.halt with causes := s.halt.causes.put r true } }
  if s.halt.causes.any then t
  else (t.addHolder s.params.stationNo).place .lineHalt (.halt r)

/-- An own cause is removed: the last takes the station out of its own set and places a RESUME (R92). -/
def State.removeCause (s : State) (r : HaltReason) : State :=
  let causes := s.halt.causes.put r false
  let t := { s with halt := { s.halt with causes := causes } }
  if s.halt.causes.any ∧ causes.any = false then
    (t.removeHolder s.params.stationNo).place .lineHalt .resume
  else t

/-- A zone of the map is in FAULT with the kind (R36). -/
def State.anyFault (s : State) (kind : FaultKind) : Bool :=
  s.zones.any fun z => z.state == .fault && (z.fault.map (·.kind)) == some kind

/-- The own cause a fault kind gives while a zone is in FAULT with it (R36, R91). -/
def FaultKind.cause? : FaultKind → Option HaltReason
  | .landingConflict => some .landingConflict
  | .liftedInMotion => some .liftedInMotion
  | _ => none

/-- The causes that no zone of the map gives any more are withdrawn (R36, R37). -/
def State.withdrawZoneCauses (s : State) : State :=
  let t := if s.anyFault .landingConflict then s else s.removeCause .landingConflict
  if t.anyFault .liftedInMotion then t else t.removeCause .liftedInMotion

/-- The causes of the faults that a reset has left standing are given (R39). -/
def State.giveZoneCauses (s : State) : State :=
  let t := if s.anyFault .landingConflict then s.addCause .landingConflict else s
  if t.anyFault .liftedInMotion then t.addCause .liftedInMotion else t

/-- The cause of a fault kind is given, for the kinds that have one (R36). -/
def State.giveCauseOf (s : State) (kind : FaultKind) : State :=
  match kind.cause? with
  | some r => s.addCause r
  | none => s

end Sys2Proof.Machine
end

