-- ==== Sys2Proof/Machine/Operands.lean ====
section
/-! DEFINITION. What the operands of the requests stand for, with the ranges the rules give them: the slab block
(R1, R4), list entries (R104, R106), hearth slabs and positions (R160), and the transfer form (R6, R7). -/

namespace Sys2Proof.Machine

/-- `n` lies in a range, both ends included. -/
def inRange (lo hi n : Nat) : Bool := lo ≤ n && n ≤ hi

/-- The record a slab block describes, none when a field is out of the ranges of R1 and R4. The class stamp is the
seconds counter minus the class age, measured length is absent, the hold reasons are empty (R4). -/
def slabRecord? (b : SlabBlock) (now : Int) (heavyKg : Nat) (landing : Option (Int × Nat))
    (status : RecordStatus) : Option Record :=
  match ChargeClass.ofCode? b.cls.toNat, MotionClass.ofCode? b.hostClass.toNat, flagOf? b.permit.toNat with
  | some cls, some host, some permit =>
    if 1 ≤ b.id.toNat && inRange 1 8 b.dest.toNat && inRange 1500 5500 b.nominal.toNat &&
        inRange 900 2600 b.width.toNat && inRange 100 450 b.thickness.toNat &&
        inRange 2000 45000 b.weight.toNat && b.classAge.toNat ≤ 2147483647 then
      some
        { id := b.id.toNat, seq := b.seq.toNat, dest := b.dest.toNat, nominal := b.nominal.toNat, measured := none,
          width := b.width.toNat, thickness := b.thickness.toNat, weight := b.weight.toNat, cls := cls,
          classStamp := signedStamp (now - b.classAge.toNat), hostClass := host,
          baseClass := baseClassOf host b.weight.toNat heavyKg, permit := permit, holds := {},
          landing := landing, status := status }
    else none
  | _, _, _ => none

/-- The bank entry a list entry describes, none when a field is out of range (R104, R106). -/
def listEntry? (b : EntryBlock) : Option ListEntry :=
  match flagOf? b.permit.toNat with
  | some permit => if 1 ≤ b.id.toNat then some ⟨b.id.toNat, b.seq.toNat, permit⟩ else none
  | none => none

/-- The entries of a request, none when one of them is out of range (R104). -/
def entries? : List EntryBlock → Option (List ListEntry)
  | [] => some []
  | b :: bs =>
    match listEntry? b, entries? bs with
    | some e, some es => some (e :: es)
    | _, _ => none

/-- The two banks (R102). -/
inductive Bank where
  | active | pending
  deriving DecidableEq, Repr

/-- A bank by its code: 1 for ACTIVE, 2 for PENDING (R177). -/
def Bank.ofCode? : Nat → Option Bank
  | 1 => some .active
  | 2 => some .pending
  | _ => none

/-- The hearth slab a block describes, none when a field is out of the ranges of R1 (R160). -/
def hearthSlab? (b : HearthSlabBlock) : Option HearthSlab :=
  match ChargeClass.ofCode? b.cls.toNat with
  | some cls =>
    if 1 ≤ b.id.toNat && inRange 900 2600 b.width.toNat && inRange 100 450 b.thickness.toNat &&
        inRange 2000 45000 b.weight.toNat then
      some ⟨b.id.toNat, b.thickness.toNat, b.width.toNat, b.weight.toNat, cls⟩
    else none
  | none => none

/-- The slabs of a restore, none when one of them is out of range. -/
def hearthSlabs? : List HearthSlabBlock → Option (List HearthSlab)
  | [] => some []
  | b :: bs =>
    match hearthSlab? b, hearthSlabs? bs with
    | some x, some xs => some (x :: xs)
    | _, _ => none

/-- The position a restore describes at the seconds counter `now`, under the charge number `number`; none when a
field is out of range or the slab count is not 1 or 2 (R160). The stroke used is kept as given, as R160 and R177 have
it, though R153 has it absent in every restored position (log 62); a stroke sent beside a presence byte of 0 is dropped,
whatever it is (log 73). -/
def restorePosition? (b : RestoreBlock) (now : Int) (number : Nat) : Option Position :=
  match hearthSlabs? b.slabs, flagOf? b.offCentre.toNat, flagOf? b.strokePresent.toNat with
  | some slabs, some offCentre, some present =>
    if inRange 1 2 slabs.length && inRange 950 3000 b.pitch.toNat && b.elapsed.toNat ≤ 2147483647 then
      some
        { number := number, slabs := slabs, pitch := b.pitch.toNat,
          weightSum := (slabs.map (·.weight)).sum, residence := b.residence.toNat, saturated := false,
          chargeTime := signedStamp (now - b.elapsed.toNat), offCentre := offCentre,
          stroke := if present then some b.stroke.toNat else none, margin := none }
    else none
  | _, _, _ => none

/-- An age as the transfer form carries it: a larger one is sent as 2,147,483,647, and a negative one, for which R6 states
no value, as a free value of the field's range (R6, log 68). -/
def sentAge (age : Int) : Word :=
  BitVec.ofNat 32 (min (if age < 0 then Config.negativeAge age else age.toNat) 2147483647)

/-- The transfer form of a record at the moment it is built (R6). -/
def State.transferForm (s : State) (r : Record) : TransferForm where
  id := BitVec.ofNat 32 r.id
  seq := BitVec.ofNat 16 r.seq
  dest := byteOf r.dest
  nominal := BitVec.ofNat 16 r.nominal
  measured := r.measured.map (BitVec.ofNat 16)
  width := BitVec.ofNat 16 r.width
  thickness := BitVec.ofNat 16 r.thickness
  weight := BitVec.ofNat 16 r.weight
  cls := r.cls
  hostClass := r.hostClass
  permit := r.permit
  classAge := sentAge (s.classAge r)
  landing := r.landing.map fun l => (sentAge (s.now - l.1), byteOf l.2)

/-- The INCOMING record taken from a transfer form (R7). -/
def State.incomingRecord (s : State) (f : TransferForm) : Record where
  id := f.id.toNat
  seq := f.seq.toNat
  dest := f.dest.toNat
  nominal := f.nominal.toNat
  measured := f.measured.map (·.toNat)
  width := f.width.toNat
  thickness := f.thickness.toNat
  weight := f.weight.toNat
  cls := f.cls
  classStamp := signedStamp (s.now - f.classAge.toNat)
  hostClass := f.hostClass
  baseClass := baseClassOf f.hostClass f.weight.toNat s.params.heavyKg
  permit := f.permit
  holds := {}
  landing := f.landing.map fun l => (signedStamp (s.now - l.1.toNat), l.2.toNat)
  status := .incoming

end Sys2Proof.Machine
end

