-- ==== Sys2Proof/Machine/ListOps.lean ====
section
/-! DEFINITION. The List Manager's operations (Chapter 6): appends, the switch with its carry-over, and the removal at
commit. -/

namespace Sys2Proof.Machine

/-- A bank's entries. -/
def ListManager.bank (l : ListManager) : Bank → List ListEntry
  | .active => l.active
  | .pending => l.pendingBank

/-- The manager with one bank replaced. -/
def ListManager.setBank (l : ListManager) (b : Bank) (es : List ListEntry) : ListManager :=
  match b with
  | .active => { l with active := es }
  | .pending => { l with pendingBank := es }

/-- A list of entries holds the slab ID. -/
def bankHolds (es : List ListEntry) (id : Nat) : Bool := es.any fun e => e.id == id

/-- The first test of R104 that an entry fails against a bank: FULL, DUPLICATE, ORDER. -/
def appendRefusal (es : List ListEntry) (e : ListEntry) : Option Reason :=
  if es.length ≥ 24 then some .full
  else if bankHolds es e.id then some .duplicate
  else match es.getLast? with
    | some last => if e.seq ≤ last.seq then some .order else none
    | none => none

/-- Entries appended one at a time until one is refused: the bank, the number appended, and the refusal (R104). -/
def appendAll : List ListEntry → List ListEntry → List ListEntry × Nat × Option Reason
  | es, [] => (es, 0, none)
  | es, e :: rest =>
    match appendRefusal es e with
    | some r => (es, 0, some r)
    | none =>
      let out := appendAll (es ++ [e]) rest
      (out.1, out.2.1 + 1, out.2.2)

/-- Where a slab of the pool lies, as a rank that is larger downstream: its zone index, with the downstream-most
occupant first within one zone (R110). -/
def State.slabRank (s : State) (id : Nat) : Nat :=
  match s.record? id with
  | none => 0
  | some r =>
    let k := (s.zoneOf r).getD 0
    2 * k + (if (s.zone k).occ.head? = some id then 1 else 0)

/-- An entry put into a list that falls by rank, behind those of its own rank. -/
def insertByRank (rank : ListEntry → Nat) (e : ListEntry) : List ListEntry → List ListEntry
  | [] => [e]
  | x :: xs => if rank x < rank e then e :: x :: xs else x :: insertByRank rank e xs

/-- Entries ordered by rank, largest first, equal ones in their order (R110). -/
def sortByRank (rank : ListEntry → Nat) (es : List ListEntry) : List ListEntry :=
  es.foldl (fun acc e => insertByRank rank e acc) []

/-- The carry-over of a switch: the entries of ACTIVE whose slabs the pool holds and PENDING does not name, downstream
first (R110). -/
def State.carryOver (s : State) : List ListEntry :=
  sortByRank (fun e => s.slabRank e.id)
    (s.lists.active.filter fun e => (s.record? e.id).isSome && !bankHolds s.lists.pendingBank e.id)

/-- The switch fits: carried entries and PENDING come to at most 24 (R111). -/
def State.switchFits (s : State) : Bool :=
  decide (s.carryOver.length + s.lists.pendingBank.length ≤ 24)

/-- A switch is applied: LIST_SWITCHED with the new ACTIVE, or LIST_SWITCH_FAILED with both banks as they were; no
deferred switch stays behind (R110, R111). -/
def State.applySwitch (s : State) : State :=
  let carried := s.carryOver
  let pend := s.lists.pendingBank
  if carried.length + pend.length ≤ 24 then
    { s with lists := { active := carried ++ pend, pendingBank := [], suspect := false, deferred := false } }.report
      .listSwitched (value := some (256 * carried.length + (carried.length + pend.length) : Nat))
  else
    { s with lists := { s.lists with deferred := false } }.report
      .listSwitchFailed (value := some (256 * carried.length + pend.length : Nat))

/-- The cycle holds the lists: it has left IDLE and its commit has not ended (R108). -/
def Cycle.holdsLists (c : Cycle) : Bool :=
  c.committing ||
  (match c.state with
   | .readyCheck | .hearthWait | .doorOpening | .pushing | .limbo => true
   | _ => false)

/-- A condition of R108 defers a switch: the cycle holds the lists, or a pair wait is in progress. -/
def State.switchDeferred (s : State) : Bool :=
  s.cycle.holdsLists || s.door.substate == .pairWait

/-- A deferred switch is due: neither condition of R108 holds any more (R109). -/
def State.switchDue (s : State) : Bool := s.lists.deferred && !s.switchDeferred

/-- A deferred switch is applied at the first moment at which neither condition holds (R109). -/
def State.runDeferredSwitch (s : State) : State := if s.switchDue then s.applySwitch else s

/-- The entry of one charged slab leaves ACTIVE; without one, LIST_ENTRY_MISSING is queued (R112). -/
def State.removeCharged (s : State) (id : Nat) : State :=
  if bankHolds s.lists.active id then
    { s with lists := { s.lists with active := s.lists.active.filter fun e => e.id != id } }
  else s.report .listEntryMissing none (some id)

/-- The index of a slab ID in ACTIVE. -/
def State.activeIndex (s : State) (id : Nat) : Option Nat := s.lists.active.findIdx? fun e => e.id == id

/-- The head and the entry at index 1 as the List Manager hands them (R107). -/
def ListManager.front (l : ListManager) : Option ListEntry × Option ListEntry := (l.active[0]?, l.active[1]?)

end Sys2Proof.Machine
end

