-- ==== Sys2Proof/Machine/ZoneOps.lean ====
section
/-! DEFINITION. The Zone Tracker's operations (Chapter 2): routing, the stages of a move, run-on, coming to rest, and
going to FAULT. -/

namespace Sys2Proof.Machine

/-! ## Routing (R28, R29) -/

/-- Outcomes of routing (R28). -/
inductive Routing where
  | onward | stays | door | handover | misrouted | endOfLine
  deriving DecidableEq, Repr

/-- Routing of a destination `d` in zone `k` (R28). -/
def State.routingOf (s : State) (d k : Nat) : Routing :=
  let p := s.params
  if d = p.stationNo ∧ p.hasFurnace then
    if k + 1 < p.doorZone then .onward
    else if k + 1 = p.doorZone then .stays
    else if k = p.doorZone then .door
    else .misrouted
  else if p.isMember d ∧ p.stationNo < d then
    if k = s.exitZone then .handover else .onward
  else if k = s.exitZone ∧ p.downstream = none then .endOfLine
  else .misrouted

/-- A reason given by routing is added with its report, unless the record holds it already (R29). -/
def State.addRoutingHold (s : State) (r : Record) (k : Nat) (reason : HoldReason) (kind : ReportKind) : State :=
  if r.holds.has reason then s
  else (s.setHold r.id reason true).report kind (some k) (some r.id) (some r.dest)

/-- Routing is evaluated for a slab in zone `k`: a reason is added, or both are removed (R29). -/
def State.routeSlab (s : State) (k id : Nat) : State :=
  match s.record? id with
  | none => s
  | some r =>
    match s.routingOf r.dest k with
    | .misrouted => s.addRoutingHold r k .misrouted .misrouted
    | .endOfLine => s.addRoutingHold r k .endOfLine .endOfLine
    | _ => (s.setHold id .misrouted false).setHold id .endOfLine false

/-- Routing is evaluated for every slab at rest in zone `k` (R28). -/
def State.routeZone (s : State) (k : Nat) : State := (s.zone k).occ.foldl (fun t id => t.routeSlab k id) s

/-- The slab's routing from zone `k` says onward. -/
def State.onward (s : State) (id k : Nat) : Bool :=
  match s.record? id with
  | some r => s.routingOf r.dest k == .onward
  | none => false

/-- The slab is destined for this station's furnace. -/
def State.destinedHere (s : State) (id : Nat) : Bool :=
  match s.record? id with
  | some r => r.dest == s.params.stationNo
  | none => false

/-! ## Stages of a move (R24, R25, R26) -/

/-- A full motion timer (R26). -/
def State.motion (s : State) : Timer := some s.params.motionTimeout

/-- Zone `k` becomes RESERVED for the internal move of a slab, or for an incoming crossing with none, and its motion
timer starts (R24, R26, R71). -/
def State.reserve (s : State) (k : Nat) (slab : Option Nat) : State :=
  s.modZone k fun z =>
    { z with state := .reserved, handleMoved := false, runOnGranted := false, restPassed := false, claim := slab,
             departing := false, timer := s.motion }

/-- The entry sensor of zone `k` is high. -/
def State.entryHigh (s : State) (k : Nat) : Bool := (s.zonePins k).entry

/-- The zone becomes RECEIVING with the handle not moved, its motion timer restarts, and the passage is the one whose
leading edge has risen at its entry sensor (R20, R25, R75). -/
def State.receive (s : State) (k : Nat) : State :=
  s.modZone k fun z =>
    { z with state := .receiving, handleMoved := false, runOnGranted := false, restPassed := false, timer := s.motion,
             passage := (s.zonePins k).entryStamp }

/-- The zone becomes SENDING and its motion timer starts (R25, R73). -/
def State.send (s : State) (k : Nat) : State :=
  s.modZone k fun z =>
    { z with state := .sending, departing := false, handleMoved := false, runOnGranted := false, restPassed := false,
             claim := none, timer := s.motion }

/-- Stage 2 of a move from zone `k` to zone `k + 1`: RECEIVING and SENDING (R25). -/
def State.leadingEdge (s : State) (k : Nat) : State := (s.receive (k + 1)).send k

/-- Stage 1 of a move from zone `k` to zone `k + 1`, with stage 2 at once when the entry sensor of `k + 1` already
shows presence (R24, R25). -/
def State.startMove (s : State) (k : Nat) : State :=
  let t := (s.reserve (k + 1) (s.lastIn k)).modZone k fun z => { z with departing := true }
  if t.entryHigh (k + 1) then t.leadingEdge k else t

/-- The conditions of R24 between two zones neither of which is the door zone. -/
def State.moveReady (s : State) (k : Nat) : Bool :=
  let z := s.zone k
  z.atRest && z.verified && decide (k < s.exitZone) && !s.isDoor k && !s.isDoor (k + 1) &&
  (s.zone (k + 1)).state == .free &&
  (match s.lastIn k with
   | some id => s.onward id k && s.pairClass id k != .held
   | none => false)

/-- Run-on from zone `k` into zone `k + 1` may be reserved: onward, a move class below HELD, and the next zone FREE
(R27, R124). -/
def State.runOnReady (s : State) (k : Nat) : Bool :=
  decide (k < s.exitZone) && (s.zone (k + 1)).state == .free &&
  (match s.lastIn k with
   | some id => s.onward id k && s.pairClass id k != .held
   | none => false)

/-- Run-on out of zone `k` is granted and zone `k + 1` reserved, with the leading edge taken at once when its entry sensor
already shows presence (R27). -/
def State.reserveRunOn (s : State) (k : Nat) : State :=
  let t := (s.reserve (k + 1) (s.lastIn k)).modZone k fun z => { z with runOnGranted := true }
  if t.entryHigh (k + 1) then t.leadingEdge k else t

/-- Run-on is tested at stage 3 for an ordinary zone: neither the approach zone, the door zone nor the exit zone
(R27). -/
def State.testRunOn (s : State) (k : Nat) : State :=
  if !s.isApproach k && !s.isDoor k && s.runOnReady k then s.reserveRunOn k else s

/-- The record handle moves from zone `k` to zone `k + 1`: `k` is FREE, `k + 1` holds the slab and its motion timer
restarts (R25, R26). -/
def State.moveHandle (s : State) (k id : Nat) : State :=
  (s.modZone (k + 1) fun z =>
    { z with occ := z.occ ++ [id], handleMoved := true, claim := none, timer := s.motion }).modZone k Zone.freed

/-- A track is removed from the door zone context (R115). -/
def State.dropTrack (s : State) (id : Nat) : State :=
  { s with door := { s.door with tracks := s.door.tracks.filter fun t => t.id != id } }

/-- Stage 3 of a move from zone `k` into the ordinary zone `k + 1` (R25, R27); a track left behind in the door zone
is removed (R115). -/
def State.trailingEdge (s : State) (k : Nat) : State :=
  match s.lastIn k with
  | none => s
  | some id =>
    let t := s.moveHandle k id
    (if t.isDoor k then t.dropTrack id else t).testRunOn (k + 1)

/-- Duration of the passage that zone `k` received, from its entry sensor's rise to its rest sensor's, modulo 2^32; a
later rise at the entry sensor belongs to another slab (R20). -/
def State.transit (s : State) (k : Nat) : Option Nat :=
  match (s.zone k).passage, (s.zonePins k).restStamp with
  | some e, some r => some (r - e).toNat
  | _, _ => none

/-- The slab comes to rest in zone `k` at the end of a move: OCCUPIED, last transit set, routing evaluated
(R20, R25). -/
def State.comeToRest (s : State) (k : Nat) : State :=
  (s.modZone k fun z =>
    { z.rested with lastTransit := (s.transit k).orElse fun _ => z.lastTransit }).routeZone k

/-! ## FAULT (R36) -/

/-- No placement is under way. -/
def Door.unplaced (d : Door) : Door := { d with phase := .idle, placing := none, suspended := false, still := none }

/-- Zone `k` is marked in FAULT with a kind and a partner, its occupants kept (R18, R36). -/
def State.markFault (s : State) (k : Nat) (kind : FaultKind) (partner : Option Nat) : State :=
  s.modZone k fun z =>
    { z with state := .fault, fault := some ⟨kind, partner⟩, departing := false, handleMoved := false,
             runOnGranted := false, restPassed := false, claim := none, timer := none, heldReported := false }

/-- Zone `k` goes to FAULT: its drive stops, its occupants stay, a run-on reservation made from it is released, an
incoming crossing on it is dropped (R36, R82), and a placement in it ends. -/
def State.faultZone (s : State) (k : Nat) (kind : FaultKind) (partner : Option Nat) : State :=
  let t := if s.runOn k then s.modZone (k + 1) Zone.freed else s
  let u := if k = 0 then t.dropIncoming else t
  let v := if u.isDoor k then { u with door := u.door.unplaced } else u
  v.markFault k kind partner

/-- Two zones of one move go to FAULT, each naming the other (R25, R26, R32). -/
def State.faultPair (s : State) (k j : Nat) (kind : FaultKind) : State :=
  (s.faultZone k kind (some j)).faultZone j kind (some k)

/-- The zone holds no slab and nothing of a move: it becomes FREE (R30, R33, R79). -/
def State.freeZone (s : State) (k : Nat) : State := s.modZone k Zone.freed

/-- The zone is OCCUPIED at rest with the occupants it has. -/
def State.restZone (s : State) (k : Nat) : State := s.modZone k Zone.rested

/-- A zone without a record shows something: it becomes UNKNOWN (R31, R35). -/
def State.makeUnknown (s : State) (k : Nat) : State := s.modZone k fun z => { z.freed with state := .unknown }

/-- Both sensors of the zone are low. -/
def State.sensorsLow (s : State) (k : Nat) : Bool := !(s.zonePins k).entry && !(s.zonePins k).rest

/-- An UNKNOWN zone without landing permission whose sensors are both low becomes FREE, with LIFTED (R35). -/
def State.unknownCleared (s : State) (k : Nat) : State :=
  if (s.zone k).state = .unknown ∧ (s.zone k).landing = false ∧ s.sensorsLow k then
    (s.freeZone k).report .lifted (some k)
  else s

/-- A FREE zone without landing permission shows presence: UNKNOWN, with UNKNOWN_PRESENCE (R35). -/
def State.freeShowsPresence (s : State) (k : Nat) : State :=
  if (s.zone k).state = .free ∧ (s.zone k).landing = false then
    (s.makeUnknown k).report .unknownPresence (some k)
  else s

/-- A slab of the pool lies in zone `k` as a LIVE one. -/
def State.bind (s : State) (k id : Nat) : State :=
  s.modZone k fun z => { z.rested with occ := [id], expected := none }

/-- Each record of a list is deleted with a report of the kind (R37, R38). -/
def State.loseSlabs (s : State) (k : Nat) (kind : ReportKind) (ids : List Nat) : State :=
  ids.foldl (fun t id => (t.delRecord id).report kind (some k) (some id)) s

end Sys2Proof.Machine
end

