-- ==== Sys2Proof/Machine/DoorOps.lean ====
section
/-! DEFINITION. The Door Positioner's operations (Chapter 7): tracking, length measurement, fit and targets, the stages
of a move into the door zone, placement with its corrections, pairs and the derivation of the door substate. -/

namespace Sys2Proof.Machine

/-! ## Fit and targets (R121, R122) -/

/-- ceil(n / 2). -/
def ceilHalf (n : Nat) : Nat := (n + 1) / 2

/-- Single fit of a slab of length `len` (R121). -/
def singleFit (p : Params) (len : Nat) : Bool :=
  decide (len + 2 * p.doorClear ≤ p.doorWidth) && decide (len + 2 * p.sideClear ≤ p.hearthWidth)

/-- The difference of two widths. -/
def widthGap (w1 w2 : Nat) : Nat := (w1 - w2) + (w2 - w1)

/-- Pair fit of a first slab (length, width, permit) and a second one (R121). -/
def pairFit (p : Params) (len1 width1 : Nat) (permit1 : Bool) (len2 width2 : Nat) (permit2 : Bool) : Bool :=
  decide (len1 + ceilHalf p.pairGap + p.doorClear ≤ p.doorWidth / 2) &&
  decide (len2 + p.pairGap / 2 + p.doorClear ≤ p.doorWidth / 2) &&
  decide (len1 + ceilHalf p.pairGap + p.sideClear ≤ p.hearthWidth / 2) &&
  decide (len2 + p.pairGap / 2 + p.sideClear ≤ p.hearthWidth / 2) &&
  decide (widthGap width1 width2 ≤ p.widthTol) && permit1 && permit2

/-- The target of a role for a slab of a length, clamped to Z; absent for PASSING (R115, R122). -/
def roleTarget (p : Params) (role : Role) (len : Nat) : Option Nat :=
  match role with
  | .passing => none
  | .single => some (min (p.doorAxis + ceilHalf len) p.doorLength)
  | .pairFirst => some (min (p.doorAxis + ceilHalf p.pairGap + len) p.doorLength)
  | .pairSecond => some (min (p.doorAxis - p.pairGap / 2) p.doorLength)

/-! ## Tracks and encoders (R117) -/

/-- Change the track of a slab. -/
def State.modTrack (s : State) (id : Nat) (f : Track → Track) : State :=
  { s with door := { s.door with tracks := s.door.tracks.map fun t => if t.id = id then f t else t } }

/-- The tracking encoder a count gives: FAR while the tracked position is above A (R117). -/
def trackEncoder (p : Params) (t : Track) : Group := if p.doorAxis < trackPosition p t then .far else .near

/-- A direction's pulse, upward for forward rotation (R117). -/
def pulseOf : Direction → Int
  | .forward => 1
  | .reverse => -1

/-- A track takes a pulse of a group's encoder: counted when that is its tracking encoder (R117). -/
def Track.pulse (p : Params) (g : Group) (dir : Direction) (t : Track) : Track :=
  if t.counting then
    let u := if t.encoder = g then { t with count := t.count + pulseOf dir } else t
    { u with encoder := trackEncoder p u }
  else t

/-- Net near pulses counted after a stamp, as far as the log of FILTER_MS reaches (R117, log 4); those of the stamp's own
millisecond count as before it (log 59). -/
def pulsesAfter (log : List (Word × Int)) (stamp : Word) : Int :=
  ((log.filter fun e => decide (0 < (e.1 - stamp).toInt)).map (·.2)).sum

/-- The near encoder's count at a stamp (R120). -/
def Door.nearCountAt (d : Door) (stamp : Word) : Int := d.nearCount - pulsesAfter d.nearLog stamp

/-- The near log without the entries older than FILTER_MS. -/
def freshLog (log : List (Word × Int)) (now : Word) (filterMs : Nat) : List (Word × Int) :=
  log.filter fun e => decide ((now - e.1).toNat ≤ filterMs)

/-- The near log with a pulse at a moment, without the entries older than FILTER_MS. -/
def logPulse (log : List (Word × Int)) (now : Word) (v : Int) (filterMs : Nat) : List (Word × Int) :=
  let kept := freshLog log now filterMs
  match kept with
  | (m, n) :: rest => if m = now then (m, n + v) :: rest else (now, v) :: kept
  | [] => [(now, v)]

/-- The encoders' counts with one pulse (R117). -/
def Door.countPulse (d : Door) (g : Group) (dir : Direction) (now : Word) (filterMs : Nat) : Door :=
  match g with
  | .near => { d with nearCount := d.nearCount + pulseOf dir,
                      nearLog := logPulse d.nearLog now (pulseOf dir) filterMs }
  | .far => { d with farCount := d.farCount + pulseOf dir }

/-- The error of a track: tracked position minus target (R128). -/
def trackError (p : Params) (t : Track) : Int := (trackPosition p t : Int) - (t.target.getD 0 : Nat)

/-- The track lies within POS_TOL of its target (R128). -/
def withinTol (p : Params) (t : Track) : Bool := (trackError p t).natAbs ≤ p.posTol

/-- The track's target recomputed from the slab's length (R122). -/
def State.retarget (s : State) (t : Track) : Track :=
  { t with target := roleTarget s.params t.role (s.lengthOf t.id) }

/-! ## Length measurement (R12, R120) -/

/-- floor(Δcount × 1,000 / ENC_PPM), clamped to 0 to 9,999 mm (R120). -/
def measuredLength (p : Params) (delta : Int) : Nat := min (delta.toNat * 1000 / p.encPpm) 9999

/-- The Record Store takes a measured length: it replaces the value, and LENGTH_MISMATCH is added with its report, or
removed (R12). -/
def State.takeLength (s : State) (id len k : Nat) : State :=
  match s.record? id with
  | none => s
  | some r =>
    let t := s.modRecord id fun x => { x with measured := some len }
    let diff := (len : Int) - (r.nominal : Nat)
    if s.params.lengthTol < diff.natAbs then
      (t.setHold id .lengthMismatch true).report .lengthMismatch (some k) (some id) (some diff)
    else t.setHold id .lengthMismatch false

/-- The length of a slab whose trailing edge passes the door zone's entry sensor, when the passage's rising edge was
counted; a target follows it in the same step (R120, R122). -/
def State.measure (s : State) (id : Nat) (fall : Word) : State :=
  match s.door.riseCount with
  | none => s
  | some rise =>
    let len := measuredLength s.params (s.door.nearCountAt fall - rise)
    let t := s.takeLength id len s.params.doorZone
    let u := t.modTrack id fun x => if x.target.isSome then t.retarget x else x
    { u with door := { u.door with riseCount := none } }

/-! ## Placement (R128, R129, R130) -/

/-- The groups are stopped and the wait for the slab to be still begins (R128). -/
def State.stopGroups (s : State) : State :=
  { s with door := { s.door with phase := .stopping, still := some 500 } }

/-- The tracked position has reached the stopping point of the phase (R128, R129). -/
def stopReached (p : Params) (t : Track) : Phase → Bool
  | .approach => decide (t.target.getD 0 ≤ trackPosition p t + p.runout)
  | .correcting .forward => decide (t.target.getD 0 ≤ trackPosition p t)
  | .correcting .reverse => decide (trackPosition p t ≤ t.target.getD 0)
  | _ => false

/-- The track of the slab being placed. -/
def Door.placed? (d : Door) : Option Track :=
  match d.placing with
  | some id => d.find? id
  | none => none

/-- The stopping test (R128, R129). -/
def State.testStop (s : State) : State :=
  match s.door.placed? with
  | some t => if !s.door.suspended && stopReached s.params t s.door.phase then s.stopGroups else s
  | none => s

/-- The placement is suspended while the slab's class in the door zone is HELD, and continues from the tracked
position when it falls below (R128, log 36). -/
def State.syncSuspension (s : State) : State :=
  match s.door.placed? with
  | none => s
  | some t =>
    let held := s.effClass t.id s.params.doorZone == .held
    match s.door.phase with
    | .approach | .correcting _ | .stopping =>
      if held && !s.door.suspended then
        { s with door := { s.door with suspended := true, still := s.door.still.orElse fun _ => some 500 } }
      else if !held && s.door.suspended then
        if stopReached s.params t .approach then
          { s with door := { s.door with suspended := false, phase := .stopping } }
        else
          { s with door := { s.door with suspended := false, phase := .approach, still := none } }
      else s
    | _ => s

/-- The placement continues with another slab of the door zone (R135). The pair wait timer of a lone pair first keeps its
remaining time, frozen, until the placement's end starts it anew (log 57). -/
def State.resumePlacement (s : State) (t : Track) : State :=
  let d := { s.door with substate := .positioning, placing := some t.id, suspended := false, still := none,
                         phase := .approach }
  ({ s with door := d }).testStop

/-- The end of a placement within tolerance: OCCUPIED at rest, PAIR_WAIT for a pair first alone, POSITIONED otherwise
(R128, R132). A resumed placement goes on with another slab that lies out of tolerance (log 36). A resumed pair first
beside a second occupant ends POSITIONED, not PAIR_WAIT (DESIGN CHOICE, log 81). -/
def State.endPlacement (s : State) (t : Track) : State :=
  let dz := s.params.doorZone
  let resumed := (s.zone dz).state == .occupied
  let u := (s.restZone dz).modTrack t.id fun x => { x with placedAt := some (trackPosition s.params x) }
  match (if resumed then u.door.tracks.find? fun x => !withinTol u.params x && (u.zone dz).occ.contains x.id else none)
  with
  | some other => u.resumePlacement other
  | none =>
    if t.role = .pairFirst ∧ (u.zone dz).occ.length ≤ 1 then
      { u with door := { u.door.unplaced with substate := .pairWait,
                                              pairTimer := some (s.params.pairTimeout * 1000) } }
    else { u with door := { u.door.unplaced with substate := .positioned } }

/-- A placement ends in POSITION_FAULT with the last error (R130). -/
def State.positionFault (s : State) (id : Nat) : State :=
  (s.faultZone s.params.doorZone .positionFault none).report .positionFault (some s.params.doorZone) (some id)
    s.door.lastError

/-- A correction move begins: forward when e < 0, reverse when e > 0; the motion timer of a RECEIVING door zone
restarts (R125, R129). -/
def State.correct (s : State) (t : Track) (e : Int) : State :=
  let dz := s.params.doorZone
  let u := s.modTrack t.id fun x => { x with corrections := x.corrections + 1 }
  let v := { u with door := { u.door with phase := .correcting (if e < 0 then .forward else .reverse),
                                          still := none } }
  if (v.zone dz).state = .receiving then v.modZone dz fun z => { z with timer := s.motion } else v

/-- The slab is still: its error is measured, and the placement ends, is corrected, or faults (R128). -/
def State.measureError (s : State) (t : Track) : State :=
  let e := trackError s.params t
  let u := { s with door := { s.door with lastError := some e } }
  if e.natAbs ≤ s.params.posTol then u.endPlacement t
  else if t.corrections < 2 then u.correct t e
  else u.positionFault t.id

/-! ## Moves into the door zone (R125) -/

/-- The approach zone's index. -/
def State.approach (s : State) : Nat := s.params.doorZone - 1

/-- The leading edge at the door zone's entry sensor: the approach zone is SENDING and the door zone RECEIVING. A rise
with its stamp starts the tracked count; without one (the sensor was high at the grant) the count stands and the
passage is not measured (R117, R120, R125). -/
def State.doorLeadingEdge (s : State) (stamp : Option Word) : State :=
  let dz := s.params.doorZone
  let t := if (s.zone dz).state = .reserved then s.receive dz else s
  match s.lastIn s.approach with
  | none => t.send s.approach
  | some id =>
    let u := t.send s.approach
    match stamp with
    | some st =>
      let count := pulsesAfter s.door.nearLog st
      let v := u.modTrack id fun x =>
        { x with count := count, counting := true, encoder := trackEncoder s.params { x with count := count } }
      { v with door := { v.door with riseCount := some (s.door.nearCountAt st) } }
    | none =>
      let v := u.modTrack id fun x => { x with counting := true }
      { v with door := { v.door with riseCount := none } }

/-- The new track of a slab at its grant (R125): the retained count when the slab lies over the entry sensor. -/
def State.newTrack (s : State) (id : Nat) (role : Role) : Track :=
  let high := s.entryHigh s.params.doorZone
  let count : Int := if high then ((s.door.find? id).map (·.count)).getD 0 else 0
  let t : Track := { id := id, role := role, count := count, counting := false,
                     target := roleTarget s.params role (s.lengthOf id) }
  { t with encoder := trackEncoder s.params t }

/-- The conditions of R125 for a grant of a role. -/
def State.doorGrantReady (s : State) (id : Nat) (role : Role) : Bool :=
  let a := s.zone s.approach
  let d := s.doorEntry
  a.atRest && a.verified && s.pairClass id s.approach != .held &&
  (if role = .pairSecond then
     d.atRest && decide (d.occ.length = 1) && s.door.substate == .pairWait
   else d.state == .free)

/-- The door zone context after a grant: the track in its place, the substate, and the placement's entry part
(R118, R125, R128). -/
def State.grantContext (s : State) (id : Nat) (role : Role) : Door :=
  let others := s.door.tracks.filter fun t => t.id != id
  let tr := s.newTrack id role
  let d := s.door.unplaced
  match role with
  | .passing => { d with tracks := tr :: others, offCentre := false }
  | .pairSecond =>
    { d with tracks := others ++ [tr], substate := .positioning, pairTimer := none, phase := .entry,
             placing := some id }
  | _ =>
    { d with tracks := tr :: others, substate := .positioning, offCentre := false, phase := .entry,
             placing := some id }

/-- The grant of a move into the door zone, one test-and-mark step; where a condition fails, nothing is marked
(R125). -/
def State.grantDoor (s : State) (id : Nat) (role : Role) : State :=
  if s.doorGrantReady id role then
    let dz := s.params.doorZone
    let t := { s with door := s.grantContext id role }
    let u :=
      if role = .pairSecond then (t.receive dz).modZone dz fun z => { z with claim := some id }
      else t.reserve dz (some id)
    let v := (u.modZone s.approach fun z => { z with departing := true }).watchHit id (some dz) 4
    if v.entryHigh dz then v.doorLeadingEdge none else v
  else s

/-- The trailing edge at the door zone's entry sensor: the handle moves, the length is measured, a passing slab's
onward move is tested, and a slab destined here goes on to its final approach (R124, R125, R128). -/
def State.doorTrailingEdge (s : State) (stamp : Word) : State :=
  let dz := s.params.doorZone
  match s.lastIn s.approach with
  | none => s
  | some id =>
    let t := ((s.moveHandle s.approach id).modTrack id fun x => { x with handleMoved := true }).measure id stamp
    if t.door.placing = some id then { t with door := { t.door with phase := .approach } }.testStop
    else if dz ≠ t.exitZone ∧ t.runOnReady dz then t.reserveRunOn dz
    else t

/-- The slab entering or resting in the door zone is a passing one: no placement is under way and the substate is
EMPTY (R116, R124). -/
def State.doorPassing (s : State) : Bool := s.door.placing.isNone && s.door.substate == .empty

/-! ## Pairs (R132, R134) -/

/-- Offset of a slab's centre from the axis: tracked position − ceil(L / 2) − A (R134). -/
def State.centreOffset (s : State) (t : Track) : Int :=
  (trackPosition s.params t : Int) - (ceilHalf (s.lengthOf t.id) : Nat) - (s.params.doorAxis : Nat)

/-- The tracks of the door zone's occupants, in the occupants' order. -/
def State.occupantTracks (s : State) : List Track := s.doorEntry.occ.filterMap s.door.find?

/-- Abandonment: the first slab is charged where it lies (R134). -/
def State.abandonPair (s : State) (cause : Nat) : State :=
  match s.occupantTracks with
  | [] => s
  | t :: _ =>
    let dz := s.params.doorZone
    let u := s.modTrack t.id fun x => s.retarget { x with role := .single }
    (({ u with door := { u.door with pairTimer := none, offCentre := true, substate := .positioned } }).report
        .pairAbandoned (some dz) (some t.id) (some cause)).report
      .offCentreCharge (some dz) (some t.id) (some (s.centreOffset t))

/-! ## Derivation of the substate (R135) -/

/-- The three moments of a derivation (R135). -/
inductive DeriveAt where
  | start
  | identify
  | clear (kind : FaultKind)
  deriving DecidableEq, Repr

/-- The tracks as the derivation leaves them: targets recomputed, tracks of slabs that are not occupants dropped but
for one of the slab in the approach zone (log 28), occupants' handles moved. -/
def State.derivedTracks (s : State) : List Track :=
  let occ := s.doorEntry.occ
  let near := (s.zone s.approach).occ
  (s.door.tracks.filter fun t => occ.contains t.id || near.contains t.id).map fun t =>
    let u := s.retarget t
    if occ.contains t.id then { u with handleMoved := true } else u

/-- The role a track is taken to have (R135, log 29). -/
def derivedRole (occ : List Nat) (passing : Bool) (t : Track) : Role :=
  if passing then .passing
  else match occ with
    | [_] => if t.role = .pairFirst then .pairFirst else .single
    | a :: b :: _ =>
      if t.id = a then .pairFirst else if t.id = b then .pairSecond else t.role
    | [] => t.role

/-- The roles given to occupants without a track: SINGLE alone, PAIR_FIRST or PAIR_SECOND by the place among two
(R135). -/
def givenRoles (occ : List Nat) (tracks : List Track) : List (Nat × Role) :=
  let untracked (id : Nat) : Bool := !tracks.any fun t => t.id == id
  match occ with
  | [a] => if untracked a then [(a, .single)] else []
  | a :: b :: _ =>
    (if untracked a then [(a, .pairFirst)] else []) ++ (if untracked b then [(b, .pairSecond)] else [])
  | [] => []

/-- The tracks with the roles R135 takes them to have, and the roles of the occupants without a track. -/
def State.withRoles (s : State) (passing : Bool) : State :=
  let occ := s.doorEntry.occ
  let role (t : Track) : Track :=
    if occ.contains t.id then s.retarget { t with role := derivedRole occ passing t } else t
  { s with door := { s.door with
      tracks := s.door.tracks.map role
      givenRoles := if passing then [] else givenRoles occ s.door.tracks } }

/-- The role of a slab in the door zone, as it is handed on with the occupants: its track's, or the one a derivation has
given it (R115, R135, R136, log 66). -/
def Door.roleOf (d : Door) (id : Nat) : Option Role :=
  match d.find? id with
  | some t => some t.role
  | none => (d.givenRoles.find? fun p => p.1 == id).map (·.2)

/-- The track with the largest error: the largest magnitude, and of equal ones the downstream one (R135, log 60). -/
def worstTrack (p : Params) : List Track → Option Track
  | [] => none
  | t :: ts =>
    match worstTrack p ts with
    | none => some t
    | some u => if (trackError p t).natAbs < (trackError p u).natAbs then some u else some t

/-- The derivation puts the door zone in FAULT POSITION_FAULT (R135). -/
def State.deriveFault (s : State) (id : Option Nat) (value : Option Int) : State :=
  let t := s.faultZone s.params.doorZone .positionFault none
  { t with door := { t.door with substate := .positioning } }.report .positionFault (some s.params.doorZone) id value

/-- The positions of the occupants' tracks are taken as those of their placement: afresh at CLEAR_FAULT, and elsewhere
where none is kept (R131, R135). -/
def State.settlePlaced (s : State) (afresh : Bool) : State :=
  let occ := s.doorEntry.occ
  let place (t : Track) : Track :=
    if occ.contains t.id && (afresh || t.placedAt.isNone) then
      { t with placedAt := some (trackPosition s.params t) }
    else t
  { s with door := { s.door with tracks := s.door.tracks.map place } }

/-- OFF_CENTRE_CHARGE for each slab of the door zone, with its offset, or no value when untracked (R135). -/
def State.reportOffCentre (s : State) : State :=
  s.doorEntry.occ.foldl (fun t id =>
    t.report .offCentreCharge (some s.params.doorZone) (some id) ((t.door.find? id).map t.centreOffset)) s

/-- The pair wait timer runs: in RUN, in PAIR_WAIT (R132). -/
def State.pairTimerRuns (s : State) : Bool := s.line.mode == .run && s.door.substate == .pairWait

/-- Slabs destined here, all tracked and within tolerance: POSITIONED, or PAIR_WAIT for a lone pair first, its timer at
the remaining time if it is frozen and at PAIR_TIMEOUT otherwise, unless it is abandoned with cause 4 (R135). -/
def State.derivePlaced (s : State) (moment : DeriveAt) : State :=
  let afresh := match moment with
    | .clear _ => true
    | _ => false
  let t := s.settlePlaced afresh
  match t.occupantTracks with
  | [tr] =>
    if tr.role = .pairFirst then
      let expired := match moment with
        | .start => t.params.pairTimeout == 0
        | .clear _ => t.door.pairTimer == some 0
        | .identify => false
      if expired then t.abandonPair 4
      else
        let full : Timer := some (t.params.pairTimeout * 1000)
        let timer := if t.pairTimerRuns then full else t.door.pairTimer.orElse fun _ => full
        { t with door := { t.door with substate := .pairWait, pairTimer := timer } }
    else { t with door := { t.door with substate := .positioned } }
  | _ => { t with door := { t.door with substate := .positioned } }

/-- The derivation for slabs destined here (R135). A lone pair first out of tolerance resumes its placement, as the
table's row gives it, though its pair wait has expired (log 58). POSITIONED at CLEAR_FAULT of POSITION_FAULT stops the
pair wait timer, to which the table gives no value there (log 71). -/
def State.deriveDestined (s : State) (moment : DeriveAt) : State :=
  let occ := s.doorEntry.occ
  let trs := s.occupantTracks
  let untracked := occ.find? fun id => (s.door.find? id).isNone
  let off := trs.filter fun t => !withinTol s.params t
  if untracked.isNone && off.isEmpty then s.derivePlaced moment
  else
    match moment with
    | .clear .positionFault =>
      let t := s.settlePlaced true
      { t with door := { t.door with substate := .positioned, offCentre := true, pairTimer := none } }.reportOffCentre
    | .clear _ =>
      match untracked, off.head? with
      | none, some t => s.resumePlacement t
      | u, _ => s.deriveFault u none
    | _ =>
      match untracked with
      | some id => s.deriveFault (some id) none
      | none =>
        let w := worstTrack s.params off
        s.deriveFault (w.map (·.id)) (w.map (trackError s.params))

/-- The Door Positioner derives the door substate from the door zone's occupants and tracks (R135). EMPTY stops the pair
wait timer, to which the table gives no value there (log 71). -/
def State.derive (s : State) (moment : DeriveAt) : State :=
  let t := { s with door := { s.door.unplaced with tracks := s.derivedTracks, givenRoles := [], riseCount := none } }
  let occ := t.doorEntry.occ
  let passing := occ.all fun id => !t.destinedHere id
  if passing then
    let u := if occ.isEmpty then t else t.withRoles true
    { u with door := { u.door with substate := .empty, offCentre := false, pairTimer := none } }
  else (t.withRoles false).deriveDestined moment

end Sys2Proof.Machine
end

