-- ==== Sys2Proof/Machine/Admission.lean ====
section
/-! DEFINITION. Admission from the approach zone (R123, R124, R126, R127, R133): what the Door Positioner makes of the
slab at rest there, and the hold reasons it gives and takes. -/

namespace Sys2Proof.Machine

/-- Role of the head slab at its grant: PAIR_FIRST when the list, the record and PAIR_TIMEOUT allow a pair, SINGLE
otherwise (R126). -/
def State.headRole (s : State) (r : Record) : Role :=
  match s.lists.active with
  | e0 :: e1 :: _ =>
    if e0.permit ∧ e1.permit ∧ r.permit ∧ 0 < s.params.pairTimeout then .pairFirst else .single
  | _ => .single

/-- Pair fit of the door zone's occupant with a second slab (R133). -/
def State.fitsBeside (s : State) (r : Record) : Bool :=
  match s.doorEntry.occ.head?.bind s.record? with
  | some first => pairFit s.params first.length first.width first.permit r.length r.width r.permit
  | none => false

/-- An admission reason is added with its report when the slab does not hold it, and the other two are removed
(R126, R127). -/
def State.holdAtDoor (s : State) (r : Record) (reason : HoldReason) (kind : ReportKind) (value : Option Int) : State :=
  let others := [HoldReason.outOfSequence, .unlisted, .tooLong].filter (· != reason)
  let t := others.foldl (fun t x => t.setHold r.id x false) s
  if r.holds.has reason then t
  else (t.setHold r.id reason true).report kind (some s.approach) (some r.id) value

/-- Case d of R123: held OUT_OF_SEQUENCE or UNLISTED (R127). -/
def State.holdOutOfTurn (s : State) (r : Record) : State :=
  match s.activeIndex r.id with
  | some i => s.holdAtDoor r .outOfSequence .outOfSequence (some (i : Nat))
  | none => s.holdAtDoor r .unlisted .unlisted none

/-- Case a of R123: the head slab, held TOO_LONG or admitted as pair first or single (R126). -/
def State.admitHead (s : State) (r : Record) : State :=
  if singleFit s.params r.length then (s.setHold r.id .tooLong false).grantDoor r.id (s.headRole r)
  else if r.holds.has .tooLong then s
  else (s.setHold r.id .tooLong true).report .tooLong (some s.approach) (some r.id) (some (r.length : Nat))

/-- The slab at rest in the approach zone: OCCUPIED at rest, verified, with a record (R123). -/
def State.waiting (s : State) : Option Record :=
  let z := s.zone s.approach
  if s.params.hasFurnace && z.atRest && z.verified then z.occ.getLast?.bind s.record? else none

/-- The evaluation of R123: the first row that applies. -/
def State.evaluateApproach (s : State) : State :=
  match s.waiting with
  | none => s
  | some r =>
    if r.dest ≠ s.params.stationNo then
      match s.door.substate with
      | .pairWait => s.abandonPair 2
      | .empty => s.grantDoor r.id .passing
      | _ => s
    else if s.lists.suspect then s
    else match s.door.substate with
      | .pairWait =>
        if s.lists.active[1]?.map (·.id) = some r.id then
          if s.fitsBeside r then s.grantDoor r.id .pairSecond else s.abandonPair 1
        else s.abandonPair 2
      | .empty =>
        if s.lists.active.head?.map (·.id) = some r.id then s.admitHead r else s.holdOutOfTurn r
      | _ => s

/-- The change of ACTIVE's head is handed in the same step: a slab that is now the head loses OUT_OF_SEQUENCE and
UNLISTED, whatever the door substate (R127). -/
def headHanded (old s : State) : State :=
  match s.lists.active.head? with
  | none => s
  | some e =>
    if old.lists.active.head? = some e then s
    else (s.setHold e.id .outOfSequence false).setHold e.id .unlisted false

/-- Own class of a slab of the pool (R10). -/
def State.ownClass? (s : State) (id : Nat) : Option MotionClass := (s.record? id).map Record.ownClass

/-- Between two states of one step an event of R123 has come about. A landing (R31) counts as the slab's coming to rest
in the approach zone, though R123's line does not list it (DEDUCED, log 80), and so does the door zone's leaving FAULT
(DEDUCED, log 7). -/
def admissionDue (old s : State) : Bool :=
  let a := s.zone s.approach
  let o := old.zone s.approach
  !(o.atRest && o.verified && o.occ == a.occ) ||
  (old.door.substate != s.door.substate && (s.door.substate == .empty || s.door.substate == .pairWait)) ||
  (old.doorEntry.state != .free && s.doorEntry.state == .free) ||
  (old.doorEntry.state == .fault && s.doorEntry.state != .fault) ||
  old.lists.front != s.lists.front ||
  (old.lists.suspect && !s.lists.suspect) ||
  a.occ.any (fun id => old.ownClass? id != s.ownClass? id) ||
  (old.line.mode != .run && s.line.mode == .run)

/-- The slab at rest in the approach zone is evaluated when an event of R123 has come about. -/
def runAdmission (old s : State) : State := if admissionDue old s then s.evaluateApproach else s

/-! ## PASSING_HELD (R124) -/

/-- Zone `k` holds at rest a slab that is not destined here, at class HELD (R124). -/
def State.passingHeld (s : State) (k : Nat) : Bool :=
  (s.zone k).atRest && (s.isApproach k || s.isDoor k) &&
  (s.zone k).occ.any (fun id => !s.destinedHere id && s.effClass id k == .held)

/-- PASSING_HELD is queued once each time a passing slab's class becomes HELD at rest (R124). -/
def State.reportPassingHeld (s : State) (k : Nat) : State :=
  if s.passingHeld k = (s.zone k).heldReported then s
  else
    let t := s.modZone k fun z => { z with heldReported := !z.heldReported }
    if s.passingHeld k then
      t.report .passingHeld (some k) ((s.zone k).occ.find? fun id => !s.destinedHere id)
    else t

/-- Both zones at which a passing slab can be held. -/
def State.runPassingHeld (s : State) : State :=
  if s.params.hasFurnace then (s.reportPassingHeld s.approach).reportPassingHeld s.params.doorZone else s

end Sys2Proof.Machine
end

