-- ==== Sys2Proof/Machine/HandoverOps.lean ====
section
/-! DEFINITION. The Handover Engine's operations (Chapter 4): making, answering and withdrawing offers, the crossing,
its completion and its ends. -/

namespace Sys2Proof.Machine

/-! ## Outgoing context (R66 to R69) -/

/-- The outgoing context back in NONE; the tag counter and the last decline stand (R66). -/
def Outgoing.toNone (o : Outgoing) : Outgoing := { o with state := .idle, answer := none, exitClear := false }

/-- The downstream neighbour's entry is QUALIFIED and declares RUN with a FREE entry zone (R68). -/
def State.downstreamReady (s : State) : Bool :=
  match s.params.downstream.bind s.line.peer? with
  | none => false
  | some p =>
    p.state == .qualified &&
    (match p.last with
     | some d => d.mode == .run && d.entry == .free
     | none => false)

/-- The slab the exit zone can offer: OCCUPIED at rest, verified, routed to handover, with a class below HELD (R68). -/
def State.offerable (s : State) : Option Record :=
  let k := s.exitZone
  let z := s.zone k
  if z.atRest && z.verified then
    match (s.lastIn k).bind s.record? with
    | some r => if s.routingOf r.dest k = .handover ∧ s.effClass r.id k ≠ .held then some r else none
    | none => none
  else none

/-- An offer is made: a new tag, the transfer form of this moment, the OFFER in its slot, and OFFERED (R68). -/
def State.makeOffer (s : State) (r : Record) : State :=
  let tag := s.out.tagCounter + 1
  let offer : Offer := ⟨tag, s.effClass r.id s.exitZone, s.transferForm r⟩
  { s with out := { s.out with state := .offered, tagCounter := tag, tag := tag, slab := r.id, answer := none,
                               exitClear := false } }.place .offer (.offer offer)

/-- The outgoing context in NONE makes an offer when every condition of R68 holds. -/
def State.runOffer (s : State) : State :=
  if s.out.state = .idle ∧ s.line.mode = .run ∧ s.out.offerBar = false ∧ s.downstreamReady then
    match s.offerable with
    | some r => s.makeOffer r
    | none => s
  else s

/-- The context's slab ID as frames carry it. -/
def Outgoing.slabId (o : Outgoing) : Word := BitVec.ofNat 32 o.slab

/-- The OFFER is taken back: from its slot, or by a mark on the attempt that carries it, or by a WITHDRAW when it has
gone out (R78). -/
def State.recallOffer (s : State) : State :=
  if s.line.slots.offer.isSome then
    { s with line := { s.line with slots := s.line.slots.clear .offer } }
  else match s.line.attempt with
    | some a =>
      if a.slot = .offer then { s with line := { s.line with attempt := some { a with withdrawn := true } } }
      else s.place .withdraw (.withdraw s.out.tag s.out.slabId)
    | none => s.place .withdraw (.withdraw s.out.tag s.out.slabId)

/-- The offer is withdrawn with a cause code (R78). -/
def State.withdrawOffer (s : State) (cause : Nat) : State :=
  let id := s.out.slab
  let t := s.recallOffer
  { t with out := { t.out.toNone with offerBar := true } }.report .offerWithdrawn (some s.exitZone) (some id)
    (some cause)

/-- The cause for which an offer in OFFERED or CLEARED must be withdrawn (R78). -/
def State.withdrawCause (s : State) : Option Nat :=
  let id := s.out.slab
  let held := match s.record? id with
    | some r => r.holds.any
    | none => false
  if held then some 1
  else if (s.zone s.exitZone).state = .fault then some 2
  else if !(s.zone s.exitZone).occ.contains id then some 3
  else if s.line.mode = .isolated then some 4
  else none

/-- The context in OFFERED or CLEARED withdraws when an event of R78 has come about. -/
def State.runWithdraw (s : State) : State :=
  if s.out.state = .offered ∨ s.out.state = .cleared then
    match s.withdrawCause with
    | some c => s.withdrawOffer c
    | none => s
  else s

/-- The crossing starts in CLEARED as soon as the station is in RUN and the upstream crossing class is below HELD
(R73). -/
def State.runCrossing (s : State) : State :=
  if s.out.state = .cleared ∧ s.line.mode = .run ∧ s.outClass ≠ .held then
    { s.send s.exitZone with out := { s.out with state := .runningOut, exitClear := false, lastDecline := none } }
  else s

/-- A crossing completes: the exit zone's record is deleted, the zone is freed unless it is in FAULT, PASSED_OUT and
the watch hit follow, and the context returns to NONE (R77). -/
def State.completeCrossing (s : State) : State :=
  let id := s.out.slab
  let k := s.exitZone
  let dest := (s.record? id).map fun r => (r.dest : Int)
  let t := s.delRecord id
  let u := if (t.zone k).state = .fault then t else t.freeZone k
  let v := { u with out := u.out.toNone }
  (v.report .passedOut (some k) (some id) dest).watchHit id (some k) 3

/-- The frame carries the outgoing context's tag and slab ID (R69, R77). -/
def Outgoing.carries (o : Outgoing) (tag : Byte) (id : Word) : Bool := o.tag == tag && o.slabId == id

/-! ## Incoming context (R67, R70, R71, R76) -/

/-- The first condition of R70 that holds gives the DECLINE reason. -/
def State.declineReason (s : State) (id : Nat) : Option DeclineReason :=
  let z := s.zone 0
  if !(match s.params.upstream with
       | some n => s.line.qualified n
       | none => false) then some .notQualified
  else if s.line.mode = .halted then some .halted
  else if s.line.mode ≠ .run then some .notRun
  else if z.state = .fault ∨ z.zoneClass = .held then some .zoneFault
  else if s.inc.state ≠ .idle ∨ z.state ≠ .free then some .busy
  else match s.poolRefusal id with
    | some .duplicate => some .duplicate
    | some _ => some .full
    | none => none

/-- An OFFER is accepted in one step (R71). -/
def State.acceptOffer (s : State) (o : Offer) : State :=
  let r := s.incomingRecord o.form
  let t := (s.reserve 0 none).addRecord r
  let u := { t with inc := ⟨.reserved, o.tag, r.id, o.upstreamClass⟩ }
  let v := u.place .accept (.accept o.tag o.form.id (u.effClass r.id 0))
  if v.entryHigh 0 then { v.receive 0 with inc := { v.inc with state := .receiving } } else v

/-- The arrival: the INCOMING record becomes LIVE in the entry zone, ARRIVED is placed, ARRIVED_IN and the watch hit
are queued, and run-on is tested (R76). -/
def State.arrive (s : State) : State :=
  let id := s.inc.slab
  let tag := s.inc.tag
  let t := s.modRecord id fun r => { r with status := .live }
  let u := t.modZone 0 fun z => { z with occ := z.occ ++ [id], handleMoved := true, timer := s.motion }
  let v := u.place .arrived (.arrived tag (BitVec.ofNat 32 id))
  let w := { (v.report .arrivedIn (some 0) (some id)).watchHit id (some 0) 2 with inc := {} }
  w.testRunOn 0

/-- A matching WITHDRAW in RESERVED drops the reservation (R79). -/
def State.dropReservation (s : State) : State :=
  let id := s.inc.slab
  (s.dropIncoming.freeZone 0).report .incomingWithdrawn (some 0) (some id)

end Sys2Proof.Machine
end

