-- ==== Sys2Proof/Machine/PaceOps.lean ====
section
/-! DEFINITION. The Pace Calculator's operations (Chapter 10): the interval ring, Davg, residence and margin, Dreq and
the line pace. -/

namespace Sys2Proof.Machine

/-- Davg: the floor of the mean of the ring, or NOMINAL_INTERVAL while it is empty (R167). -/
def davgOf (ring : List Nat) (nominal : Nat) : Nat :=
  if ring = [] then nominal else ring.sum / ring.length

/-- The stable flag: eight intervals whose spread times four is at most Davg (R167). -/
def stableOf (ring : List Nat) (davg : Nat) : Bool :=
  ring.length == 8 && (ring.foldl max 0 - ring.foldl min 7200) * 4 ≤ davg

/-- The ring replaced, with Davg and the stable flag recomputed in the same step (R167). -/
def Pace.withRing (p : Pace) (ring : List Nat) (nominal : Nat) : Pace :=
  { p with ring := ring, davg := davgOf ring nominal, stable := stableOf ring (davgOf ring nominal) }

/-- An interval stored at the young end; the oldest of eight is removed (R166). -/
def ringPush (ring : List Nat) (i : Nat) : List Nat :=
  (if ring.length ≥ 8 then ring.drop 1 else ring) ++ [i]

/-- The need of position `i`: its remaining residence shared over the discharges until it leaves, rounded up
(R170). -/
def needOf (now : Int) (i : Nat) (p : Position) : Nat :=
  let q := ((p.residence : Int) - (now - p.chargeTime)).toNat
  (q + i) / (i + 1)

/-- The needs of the positions from index `i` on (R170). -/
def needsFrom (now : Int) : Nat → List Position → List Nat
  | _, [] => []
  | i, p :: ps => needOf now i p :: needsFrom now (i + 1) ps

/-- The largest need of the hearth record, 0 when it is empty (R170). -/
def largestNeed (now : Int) (ps : List Position) : Nat := (needsFrom now 0 ps).foldl max 0

/-- The Dreq a QUALIFIED peer contributes: its last declared one, above 7,200 taken as 7,200; other entries do not
contribute (R172). -/
def Peer.contributes (p : Peer) : Option Nat :=
  if p.state = .qualified then p.last.map fun d => min d.dreq.toNat 7200 else none

/-- The largest contribution of the peers (R172). -/
def peersPace (peers : List Peer) : Nat := (peers.filterMap Peer.contributes).foldl max 0

/-- The line pace: the largest of the station's Dreq and its QUALIFIED peers' (R172). -/
def State.linePaceNow (s : State) : Nat := max s.pace.dreq (peersPace s.line.peers)

/-- The pace source: this station when its own Dreq is the line pace, else the lowest-numbered QUALIFIED peer whose
Dreq is (R172). -/
def State.paceSourceNow (s : State) : Nat :=
  if s.pace.dreq = s.linePaceNow then s.params.stationNo
  else
    match s.line.peers.find? fun p => p.contributes == some s.linePaceNow with
    | some p => p.station
    | none => s.params.stationNo

/-- Two paces differ by 5 s or more (R173). -/
def paceMoved (a b : Nat) : Bool := decide (a + 5 ≤ b) || decide (b + 5 ≤ a)

/-- The line pace and its source are recomputed, without a report. -/
def State.setLinePace (s : State) : State :=
  { s with pace := { s.pace with linePace := s.linePaceNow, source := s.paceSourceNow } }

/-- The line pace is recomputed, and PACE_CHANGED is queued when it differs from the reported pace by 5 s or more
(R172, R173). -/
def State.recomputeLinePace (s : State) : State :=
  let t := s.setLinePace
  if paceMoved t.pace.linePace t.pace.reported then
    { t with pace := { t.pace with reported := t.pace.linePace } }.report .paceChanged (value := some t.pace.linePace)
  else t

/-- Dreq and the PACE_SATURATED flag are recomputed from the hearth record; PACE_SATURATED is queued when the flag
becomes yes (R170, R171). -/
def State.setDreq (s : State) : State :=
  let need := largestNeed s.now s.hearth.positions
  let t := { s with pace := { s.pace with dreq := min need 7200, saturated := decide (7200 < need) } }
  if 7200 < need ∧ s.pace.saturated = false then t.report .paceSaturated (value := some need) else t

/-- A recomputation of Dreq and of the line pace that follows it (R171, R172); none before START. -/
def State.recomputeDreq (s : State) : State :=
  if s.phase = .unstarted then s else s.setDreq.recomputeLinePace

/-- The Pace Calculator takes a discharge with the stamp of its edge (R166). -/
def State.takeDischarge (s : State) (stamp : Word) : State :=
  let here : Pace → Pace := fun p => { p with last := some (stamp, s.clk.seconds) }
  match s.pace.last with
  | none => { s with pace := here s.pace }
  | some (lastStamp, lastSeconds) =>
    let elapsed := (s.clk.seconds - lastSeconds).toNat
    let interval := (stamp - lastStamp).toNat / 1000
    if s.params.stopThreshold + 1 < elapsed ∨ s.params.stopThreshold < interval then
      { s with pace := here s.pace }.report .millStopSeen (value := some (min elapsed 2147483647 : Nat))
    else
      let i := max 1 (min interval 7200)
      { s with pace := here (s.pace.withRing (ringPush s.pace.ring i) s.params.nominalInterval) }

/-! ## Residence and margin (R168, R169) -/

/-- Thickness times the heating factor of the charge class, before saturation (R168). -/
def residenceProduct (p : Params) (x : HearthSlab) : Nat := x.thickness * p.heating x.cls

/-- The slab's required residence, at most 65,535 s (R168). -/
def slabResidence (p : Params) (x : HearthSlab) : Nat := min (residenceProduct p x) 65535

/-- The slab's product saturates (R168). -/
def saturates (p : Params) (x : HearthSlab) : Bool := decide (65535 < residenceProduct p x)

/-- The position's R: the largest of its slabs' residences (R168). -/
def chargeResidence (p : Params) (slabs : List HearthSlab) : Nat := (slabs.map (slabResidence p)).foldl max 0

/-- The soak margin: projected residence (N + 1) × Davg minus R, clamped to ±65,535 (R169). -/
def soakMargin (n davg residence : Nat) : Int :=
  max (-65535) (min 65535 (((n + 1) * davg : Nat) - (residence : Int)))

/-- RESIDENCE_SATURATED for each saturating slab of a charge, in its order (R168, R169). -/
def State.reportSaturated (s : State) (slabs : List HearthSlab) : State :=
  slabs.foldl (fun t x =>
    if saturates t.params x then
      t.report .residenceSaturated (some t.params.doorZone) (some x.id) (some (residenceProduct t.params x))
    else t) s

end Sys2Proof.Machine
end

