-- ==== Sys2Proof/Machine/HearthOps.lean ====
section
/-! DEFINITION. The Hearth Tracker's operations (Chapter 9): totals, the room test, append and removal. -/

namespace Sys2Proof.Machine

/-- F of a list of positions: the sum of their pitches (R154). -/
def fillOf (ps : List Position) : Nat := (ps.map (·.pitch)).sum

/-- M of a list of positions: the sum of their weight sums (R154). -/
def loadOf (ps : List Position) : Nat := (ps.map (·.weightSum)).sum

/-- Count, F and M recomputed from the positions (R154, R163). -/
def Hearth.recount (h : Hearth) : Hearth :=
  { h with count := h.positions.length, fill := fillOf h.positions, load := loadOf h.positions }

/-- A charge of the given pitch and weight sum has room under the limits (R155). -/
def Hearth.hasRoom (h : Hearth) (p : Params) (pitch weight : Nat) : Bool :=
  decide (h.count < 48) && decide (h.fill + pitch ≤ p.hearthLength) && decide (h.load + weight ≤ p.loadCapacityKg)

/-- The charge number after this one: 65,535 is followed by 1 (R154). -/
def numberAfter (n : Nat) : Nat := if n ≥ 65535 then 1 else n + 1

/-- A position appended at the young end with the next charge number; count, F and M rise in the same step
(R154, R156, R160). -/
def Hearth.append (h : Hearth) (p : Position) : Hearth :=
  { h with positions := h.positions ++ [p], count := h.count + 1, fill := h.fill + p.pitch,
           load := h.load + p.weightSum, nextNumber := numberAfter h.nextNumber }

/-- The position at an index removed; the positions behind it move forward and count, F and M fall (R157, R161). Totals
that a struck update has left behind the positions (R159) fall no lower than 0 before START recomputes them, and the
index is one of the positions, not of the count (log 74). -/
def Hearth.removeAt (h : Hearth) (i : Nat) : Hearth :=
  match h.positions[i]? with
  | none => h
  | some p =>
    { h with positions := h.positions.eraseIdx i, count := h.count - 1, fill := h.fill - p.pitch,
             load := h.load - p.weightSum }

/-- The record emptied; the next charge number and the integrity stand (R162). -/
def Hearth.cleared (h : Hearth) : Hearth := { h with positions := [], count := 0, fill := 0, load := 0 }

/-- A charge is under way: the cycle is in DOOR_OPENING, PUSHING, RETRACTING, DOOR_CLOSING or LIMBO, or a commit is in
progress (R141, R160). -/
def Cycle.underWay (c : Cycle) : Bool :=
  c.committing ||
  (match c.state with
   | .doorOpening | .pushing | .retracting | .doorClosing | .limbo => true
   | _ => false)

/-- Test 2 of R160: host edits of the hearth record are refused STATE. -/
def State.editsRefused (s : State) : Bool :=
  s.cycle.underWay || (s.started && !s.params.hasFurnace)

/-- The slab IDs of a restored position repeat one another, or stand in the pool or in the hearth record (R160). -/
def State.restoreDuplicate (s : State) (ids : List Nat) : Bool :=
  !decide ids.Nodup || ids.any (fun id => (s.record? id).isSome || s.hearth.holdsId id)

/-- Elapsed time of a position: the seconds counter minus its charge time (R153). -/
def State.elapsed (s : State) (p : Position) : Int := s.now - p.chargeTime

end Sys2Proof.Machine
end

