-- ==== Sys2Proof/Machine/CycleOps.lean ====
section
/-! DEFINITION. The Charge Sequencer's operations (Chapter 8): the cycle's start and tests, pitch and stroke, the push,
LIMBO, the commit, and the ways back to IDLE. -/

namespace Sys2Proof.Machine

/-- The cycle back in IDLE; the value last sent on the setpoint output stays with the machine (R143, R148, R151). The
pitch, the weight sum and the off-centre flag, which no rule gives there, are 0, 0 and no as after a cold reset
(log 61). -/
def Cycle.toIdle (c : Cycle) : Cycle := { setpoint := c.setpoint }

/-- The cycle replaced. -/
def State.setCycle (s : State) (c : Cycle) : State := { s with cycle := c }

/-- The door substate replaced. -/
def State.setSubstate (s : State) (x : Substate) : State := { s with door := { s.door with substate := x } }

/-- A report of the cycle: the door zone and the charge's first slab (R152). -/
def State.reportCharge (s : State) (kind : ReportKind) (value : Option Int := none) : State :=
  s.report kind (some s.params.doorZone) s.cycle.charge.head? value

/-- The largest width of the charge's records (R142). -/
def widest (rs : List Record) : Nat := (rs.map (·.width)).foldl max 0

/-- The stroke before its limit: Dc + ceil(Wmax / 2) (R142). -/
def strokeOf (p : Params) (wmax : Nat) : Nat := p.strokeBase + ceilHalf wmax

/-- The records of the charge. -/
def State.chargeRecords (s : State) : List Record := s.cycle.charge.filterMap s.record?

/-- Each slab ID of a list once, in its order: no charge names a slab twice (R137). -/
def eachOnce (ids : List Nat) : List Nat := ids.foldl (fun acc x => if acc.contains x then acc else acc ++ [x]) []

/-- The cycle leaves IDLE when the conditions of R140 hold, taking the charge with its pitch and weight sum (R142). -/
def State.runCycleStart (s : State) : State :=
  if s.params.hasFurnace && s.cycle.state == .idle && s.line.mode == .run && s.door.substate == .positioned &&
      s.doorEntry.atRest && !s.doorEntry.occ.isEmpty then
    let ids := eachOnce s.doorEntry.occ
    let rs := ids.filterMap s.record?
    (s.setCycle
      { s.cycle.toIdle with
        state := .readyCheck, charge := ids, offCentre := s.door.offCentre,
        pitch := widest rs + s.params.slabGap, weightSum := (rs.map (·.weight)).sum }).setSubstate .charging
  else s

/-- Outcome of the readiness tests, made in order (R141). -/
inductive Ready where
  | notIntact | held | noRoom (excess : Nat) | noPermit | ready
  deriving DecidableEq, Repr

/-- The readiness tests of R141: the first that fails decides. -/
def State.readiness (s : State) : Ready :=
  if s.hearth.integrity ≠ .intact then .notIntact
  else if s.chargeRecords.any (fun r => r.holds.any) then .held
  else if !s.hearth.hasRoom s.params s.cycle.pitch s.cycle.weightSum then
    .noRoom (s.hearth.fill + s.cycle.pitch - s.params.hearthLength)
  else if !s.pins.furnPermit then .noPermit
  else .ready

/-- A waiting report is queued at most once per cycle (R141). -/
def State.reportWait (s : State) (told : Bool) (mark : Waits → Waits) (kind : ReportKind) (value : Option Int) :
    State :=
  if told then s
  else (s.setCycle { s.cycle with waits := mark s.cycle.waits }).reportCharge kind value

/-- The cycle enters DOOR_OPENING (R139, R141). -/
def State.openDoor (s : State) : State :=
  s.setCycle { s.cycle with state := .doorOpening, timer := some s.params.doorTimeout }

/-- The readiness tests act on the cycle in READY_CHECK or HEARTH_WAIT (R141). -/
def State.runReady (s : State) : State :=
  if s.cycle.state = .readyCheck ∨ s.cycle.state = .hearthWait then
    let t := s.setCycle { s.cycle with state := .readyCheck }
    match s.readiness with
    | .notIntact =>
      t.reportWait s.cycle.waits.notIntact (fun w => { w with notIntact := true }) .hearthNotIntact
        (some s.hearth.integrity.reportCode)
    | .held => t
    | .noRoom excess =>
      (t.setCycle { t.cycle with state := .hearthWait }).reportWait s.cycle.waits.hearthWait
        (fun w => { w with hearthWait := true }) .hearthWait (some excess)
    | .noPermit => t.reportWait s.cycle.waits.permitWait (fun w => { w with permitWait := true }) .permitWait none
    | .ready => if s.line.mode = .run then t.openDoor else t
  else s

/-- Entry into PUSHING: the stroke is computed, clamped and sent, the timer starts, and CHARGE_STARTED is queued
(R142, R144, R187). -/
def State.startPush (s : State) : State :=
  let computed := strokeOf s.params (widest s.chargeRecords)
  let stroke := min computed s.params.strokeLimit
  let t := s.setCycle
    { s.cycle with state := .pushing, stroke := some stroke, setpoint := some stroke,
                   timer := some s.params.pushTimeout }
  let u := if s.params.strokeLimit < computed then
      t.reportCharge .strokeClamped (some (computed - s.params.strokeLimit : Nat))
    else t
  u.reportCharge .chargeStarted (some stroke)

/-- DOOR_OPENING with DOOR_OPEN active in RUN: the cycle enters PUSHING (R143). -/
def State.runOpening (s : State) : State :=
  if s.cycle.state = .doorOpening ∧ s.pins.doorOpen ∧ s.line.mode = .run then s.startPush else s

/-- Every entry into LIMBO (R145). -/
def State.enterLimbo (s : State) (reason : LimboReason) : State :=
  let t := s.setCycle { s.cycle with state := .limbo, timer := none, limbo := some reason, latePush := false }
  (t.faultZone s.params.doorZone .pushFault none).reportCharge .pushFault (some reason.code)

/-- A push that the station's leaving RUN has interrupted (R95, R144). -/
def State.runLimbo (s : State) : State :=
  if s.cycle.state = .pushing ∧ s.line.mode ≠ .run then
    s.enterLimbo (if s.line.mode = .isolated then .isolatedInPush else .haltInPush)
  else s

/-- RETRACTING with BAR_HOME active: the substate is EMPTY, the door zone FREE unless in FAULT, and the cycle enters
DOOR_CLOSING (R147). -/
def State.runRetract (s : State) : State :=
  if s.cycle.state = .retracting ∧ s.pins.barHome then
    let dz := s.params.doorZone
    let t := { s with door := { s.door with substate := .empty, offCentre := false, pairTimer := none } }
    let u := if s.doorEntry.state = .occupied ∧ s.doorEntry.occ = [] then t.freeZone dz else t
    u.setCycle { s.cycle with state := .doorClosing, timer := some s.params.doorTimeout }
  else s

/-- DOOR_CLOSING with DOOR_SHUT active: the cycle returns to IDLE (R148). -/
def State.runClosing (s : State) : State :=
  if s.cycle.state = .doorClosing ∧ s.pins.doorShut then s.setCycle s.cycle.toIdle else s

/-- The cycle advances on what its inputs show (R139 to R148). -/
def State.runCycle (s : State) : State :=
  if s.params.hasFurnace then s.runRetract.runClosing.runCycleStart.runReady.runOpening else s

/-- The cycle returns to IDLE without a commit, the slabs standing POSITIONED (R143). -/
def State.abortOpening (s : State) : State := (s.setCycle s.cycle.toIdle).setSubstate .positioned

/-- Door fault at opening (R143). -/
def State.openingFault (s : State) : State :=
  let t := (s.faultZone s.params.doorZone .doorFault none).reportCharge .doorFault (some 1)
  t.abortOpening

/-- The other zone of a move that the door zone takes part in (R148). -/
def State.doorMovePartner (s : State) : Option Nat :=
  let dz := s.params.doorZone
  let z := s.doorEntry
  if (z.state == .reserved || (z.state == .receiving && !z.handleMoved)) && s.senderMoves dz then some s.approach
  else if dz < s.exitZone ∧ (z.departing ∨ z.state = .sending ∨ s.runOn dz) then some (dz + 1)
  else none

/-- Door fault at closing (R148). -/
def State.closingFault (s : State) : State :=
  let dz := s.params.doorZone
  let id := s.doorEntry.occ.head?
  let t := match s.doorMovePartner with
    | some j => s.faultPair dz j .doorFault
    | none => s.faultZone dz .doorFault none
  let u := t.report .doorFault (some dz) id (some 2)
  u.setCycle u.cycle.toIdle

/-- The retract timer expires (R147). -/
def State.retractFault (s : State) : State :=
  let t := s.setCycle { s.cycle with timer := none }
  (t.faultZone s.params.doorZone .barFault none).reportCharge .barFault

/-! ## The commit (R146) -/

/-- What a record passes into the hearth position (R8, R156). -/
def Record.onHearth (r : Record) : HearthSlab := ⟨r.id, r.thickness, r.width, r.weight, r.cls⟩

/-- The position a commit appends (R156, R168, R169). -/
def State.chargePosition (s : State) : Position :=
  let slabs := s.chargeRecords.map Record.onHearth
  let residence := chargeResidence s.params slabs
  { number := s.hearth.nextNumber, slabs := slabs, pitch := s.cycle.pitch, weightSum := s.cycle.weightSum,
    residence := residence, saturated := slabs.any (saturates s.params), chargeTime := signedStamp s.now,
    offCentre := s.cycle.offCentre, stroke := s.cycle.stroke,
    margin := some (soakMargin s.hearth.count s.pace.davg residence) }

/-- Step 1 of a commit: the position is appended and the charge's records are deleted (R146, R156). -/
def State.commitHearth (s : State) (p : Position) : State :=
  s.cycle.charge.foldl (fun t id => t.delRecord id) { s with hearth := s.hearth.append p }

/-- Step 3 of a commit: the bar stands across the door zone (R146). -/
def State.barOut (s : State) : State :=
  let dz := s.params.doorZone
  let t := if s.doorEntry.state = .fault then s else s.modZone dz fun z => { z.rested with occ := [] }
  { t with door := { t.door.unplaced with substate := .barOut } }

/-- Step 4 of a commit: CHARGED for each slab, RESIDENCE_SATURATED, SOAK_SHORTFALL, then the watch hits
(R146, R169). -/
def State.commitReports (s : State) (p : Position) : State :=
  let dz := s.params.doorZone
  let margin := p.margin.getD 0
  let t := s.cycle.charge.foldl (fun t id => t.report .charged (some dz) (some id) (some margin)) s
  let u := t.reportSaturated p.slabs
  let v := if margin < 0 then u.reportCharge .soakShortfall (some margin) else u
  s.cycle.charge.foldl (fun t id => t.watchHit id (some dz) 5) v

/-- The commit (R146): steps 1 to 4 in order, the Dreq recomputation that follows its reports, and RETRACTING. A
deferred switch is applied by the same step (R109). The cycle leaves LIMBO with it, and late push done, a field in LIMBO,
becomes no (DEDUCED, log 82). -/
def State.commit (s : State) : State :=
  let p := s.chargePosition
  let t := ({ s with cycle := { s.cycle with committing := true } }).commitHearth p
  let u := t.cycle.charge.foldl (fun t id => t.removeCharged id) t
  let v := (u.barOut.commitReports p).recomputeDreq
  v.setCycle { v.cycle with state := .retracting, committing := false, limbo := none, latePush := false,
                            timer := some s.params.pushTimeout }

/-- The door zone leaves FAULT for the host's answer to LIMBO, with FAULT_CLEARED of PUSH_FAULT (R150, R151). -/
def State.answerLimbo (s : State) : State :=
  let dz := s.params.doorZone
  (s.restZone dz).report .faultCleared (some dz) none (some (FaultKind.pushFault.ctorIdx : Nat))

end Sys2Proof.Machine
end

