-- ==== Sys2Proof/Machine/Settle.lean ====
section
/-! DEFINITION. What follows from a command in the same step (95_what_each_step_holds.md): grants, admissions, offers,
crossings, the cycle's advance, list switches and mode changes, each as its own rule gives it, in rounds until nothing
more is due (log 7). -/

namespace Sys2Proof.Machine

/-- A passing slab at rest in the door zone may be granted the move into the next zone (R124). -/
def State.passOnReady (s : State) : Bool :=
  let dz := s.params.doorZone
  s.params.hasFurnace && s.doorEntry.atRest && s.doorEntry.verified && s.door.substate == .empty && s.runOnReady dz

/-- The move waiting in zone `k` is granted when its conditions hold (R24, R124). -/
def State.grantFrom (s : State) (k : Nat) : State :=
  if s.moveReady k || (s.isDoor k && s.passOnReady) then s.startMove k else s

/-- Every waiting move is tested (R24). -/
def State.runGrants (s : State) : State := (List.range s.exitZone).foldl State.grantFrom s

/-- One round of what is due between two states of one step. -/
def round (old s : State) : State :=
  let a := s.runLimbo.runWithdraw.runDeferredSwitch
  let b := (runAdmission old (headHanded old a)).runDeferredSwitch
  b.runCycle.runGrants.runCrossing.runOffer.syncSuspension.runPassingHeld.leaveListening

/-- A number of rounds, each seeing what the one before it changed. -/
def settleRounds : Nat → State → State → State
  | 0, _, s => s
  | n + 1, old, s => settleRounds n s (round old s)

/-- The stall timer of a group: it runs while the group is commanded, and starts afresh (R119). In a crossing out of
the door zone only the far group is supervised (R124). -/
def State.stallOf (s : State) (g : Group) (t : Timer) : Timer :=
  if s.groupOn g && !(g == .near && s.crossingOut s.params.doorZone) then t.orElse fun _ => some 500 else none

/-- The stall timers follow the groups' commands (R119). -/
def State.syncStall (s : State) : State :=
  { s with door := { s.door with stallNear := s.stallOf .near s.door.stallNear,
                                 stallFar := s.stallOf .far s.door.stallFar } }

/-- Everything that follows from a command in its own step, once the station is started: six rounds reach the end of
every chain of these rules (log 7). -/
def settle (old s : State) : State :=
  if s.started then (settleRounds 6 old s).syncStall.syncDeclare else s

/-- The end of a step that has changed `old` into `s`. -/
def finish (old s : State) : State :=
  let t := settle old (headHanded old s)
  { t with line := { t.line with moment := t.line.moment + 1 } }

/-- A step of a started station, with what follows from it; before START it changes nothing. -/
def State.act (s : State) (run : State → State) : Result := .next (if s.started then finish s (run s) else s)

end Sys2Proof.Machine
end

