-- ==== Sys2Proof/Machine/FrameOps.lean ====
section
/-! DEFINITION. Sorting and delivering good frames (R48, R58, R59, R61, R62, R65, R90). -/

namespace Sys2Proof.Machine

/-- A good frame heard in ISOLATED with cause SILENCE returns the station to LISTENING with LINE_HEARD and a new
window (R59). -/
def State.lineHeard (s : State) (source : Byte) : State :=
  if s.line.mode = .isolated ∧ s.line.isolation = some .silence then
    ({ s with line := { s.line with mode := .listening, isolation := none } }.report .lineHeard
      (value := some source.toNat)).openWindow
  else s

/-- A frame of the station's own number is a duplicate: a DECLARE in LISTENING, any frame in RUN and HALTED (R58). -/
def State.isDuplicate (s : State) (kind : Nat) : Bool :=
  match s.line.mode with
  | .listening => kind == 1
  | .run | .halted => true
  | _ => false

/-- A duplicate station: DUPLICATE_STATION with the kind code, and ISOLATED (R58). -/
def State.duplicate (s : State) (kind : Nat) : State :=
  (s.report .duplicateStation (value := some kind)).isolate .duplicate

/-- A member's peer entry takes a frame; the change to QUALIFIED is reported, and a DECLARE from a QUALIFIED peer
recomputes the line pace (R61, R62, R172). -/
def State.takePeer (s : State) (n : Nat) (f : Peer → Peer) (declares : Bool) : State :=
  let t := s.modPeer n f
  let u := if t.line.qualified n && !s.line.qualified n then t.report .peerQualified (value := some n) else t
  if declares && u.line.qualified n then u.recomputeLinePace else u

/-- A good frame heard while the own transmitter does not hold TXEN: the silence timer, the return from SILENCE, then
sorting by source, and delivery of a member's frame (R43, R48, R58, R59, log 21). -/
def State.hear (s : State) (source : Byte) (kind : Nat) (peer : Peer → Peer) (deliver : State → State) : State :=
  if !s.started || s.line.attempt.isSome then s
  else
    let t := s.restartSilence.lineHeard source
    let n := source.toNat
    if n = s.params.stationNo then (if s.isDuplicate kind then t.duplicate kind else t)
    else if s.params.isMember n then deliver (t.takePeer n peer (kind == 1))
    else { t with line := { t.line with foreign := satSucc t.line.foreign } }

/-- A handover frame is delivered to its station outside ISOLATED, when it comes from the neighbour it must come from
(R48, R65). -/
def State.handoverFrame (s : State) (h : Addressed) (neighbour : Option Nat) : Bool :=
  s.line.mode != .isolated && h.dest.toNat == s.params.stationNo && neighbour == some h.source.toNat

/-- A DECLARE reaches the Halt Unit, then the Handover Engine: the offer bar is lifted, and a crossing whose slab it
names completes (R48, R69, R77, R90). -/
def State.takeDeclaration (s : State) (n : Nat) (d : Declaration) : State :=
  let t := if d.holding then s.addHolder n else s.removeHolder n
  if t.line.mode ≠ .isolated ∧ t.params.downstream = some n then
    let u := { t with out := { t.out with offerBar := false } }
    if u.out.state = .runningOut ∧ d.entryId = u.out.slabId then u.completeCrossing else u
  else t

end Sys2Proof.Machine
end

