-- ==== Sys2Proof/Machine/CyclePins.lean ====
section
/-! DEFINITION. The accepted edges of DOOR_OPEN, DOOR_SHUT, PUSH_DONE, BAR_HOME and FURN_PERMIT (Chapter 8). A pin's
level follows its edges at every time; the cycle takes them from START on (log 3). -/

namespace Sys2Proof.Machine

/-- What an accepted edge of a cycle input does besides changing its level, from START on; a station without a furnace
has no cycle (R137, R179). -/
def State.cycleEdge (s : State) (run : State → State) : Result :=
  .next (if s.phase != .unstarted && s.params.hasFurnace then finish s (run s) else s)

/-- DOOR_OPEN_ACTIVE: in DOOR_OPENING in RUN the cycle enters PUSHING (R143). -/
def execDoorOpenActive (s : State) : Result :=
  if s.pins.doorOpen then .next s
  else ({ s with pins := { s.pins with doorOpen := true } }).cycleEdge State.runOpening

/-- A fall of DOOR_OPEN: DOOR_LOST in PUSHING, DOOR_LOST_IN_RETRACT in RETRACTING (R144, R147). -/
def State.doorLost (s : State) : State :=
  match s.cycle.state with
  | .pushing => s.enterLimbo .doorLost
  | .retracting => s.report .doorLostInRetract (some s.params.doorZone)
  | _ => s

/-- DOOR_OPEN_FALL (R144, R147). -/
def execDoorOpenFall (s : State) : Result :=
  if s.pins.doorOpen then ({ s with pins := { s.pins with doorOpen := false } }).cycleEdge State.doorLost
  else .next s

/-- DOOR_SHUT_ACTIVE: in DOOR_CLOSING the cycle returns to IDLE (R148). -/
def execDoorShutActive (active : Bool) (s : State) : Result :=
  if s.pins.doorShut = active then .next s
  else ({ s with pins := { s.pins with doorShut := active } }).cycleEdge State.runClosing

/-- A rising edge of PUSH_DONE: the commit in PUSHING in RUN, late push done in LIMBO (R144, R150). -/
def State.pushDone (s : State) : State :=
  match s.cycle.state with
  | .pushing => if s.line.mode = .run then s.commit else s
  | .limbo =>
    if s.cycle.latePush then s
    else (s.setCycle { s.cycle with latePush := true }).reportCharge .latePushDone
  | _ => s

/-- PUSH_DONE_RISE (R144, R146, R150). -/
def execPushDoneRise (active : Bool) (s : State) : Result :=
  if s.pins.pushDone = active then .next s
  else
    ({ s with pins := { s.pins with pushDone := active } }).cycleEdge fun t => if active then t.pushDone else t

/-- BAR_HOME_ACTIVE: in RETRACTING the bar is back (R147). -/
def execBarHomeActive (active : Bool) (s : State) : Result :=
  if s.pins.barHome = active then .next s
  else ({ s with pins := { s.pins with barHome := active } }).cycleEdge State.runRetract

/-- FURN_PERMIT_RISE: the readiness tests are made again (R141). -/
def execFurnPermitRise (s : State) : Result :=
  if s.pins.furnPermit then .next s
  else ({ s with pins := { s.pins with furnPermit := true } }).cycleEdge State.runReady

/-- A fall of FURN_PERMIT: permit lost, which aborts the opening and not the push (R143, R144). -/
def State.permitLost (s : State) : State :=
  match s.cycle.state with
  | .doorOpening => (s.reportCharge .permitLost (some 1)).abortOpening
  | .pushing => s.reportCharge .permitLost (some 2)
  | _ => s.runReady

/-- FURN_PERMIT_FALL (R141, R143, R144). -/
def execFurnPermitFall (s : State) : Result :=
  if s.pins.furnPermit then ({ s with pins := { s.pins with furnPermit := false } }).cycleEdge State.permitLost
  else .next s

end Sys2Proof.Machine
end

