-- ==== Sys2Proof/Machine/Frames.lean ====
section
/-! DEFINITION. The yard line: frame errors, the eight kinds of good frame, and the course of a transmit attempt
(Chapters 3, 4, 5). -/

namespace Sys2Proof.Machine

/-- FRAME_ERROR: the line error count rises, and in the count half the window's tally too (R43, R44, R55). -/
def execFrameError (s : State) : Result :=
  if s.started && s.line.attempt.isNone then
    .next { s with line := { s.line with
      lineErrors := satSucc s.line.lineErrors,
      tally := if s.line.mode = .listening ∧ s.line.stage = .count then s.line.tally + 1 else s.line.tally } }
  else .next s

/-- A good DECLARE is heard (R48, R61, R77, R90). -/
def State.hearDeclare (header : Broadcast) (decl : Declaration) (u : State) : State :=
  u.hear header.source 1 (fun p => p.heardDeclare header.seq decl)
    fun t => t.takeDeclaration header.source.toNat decl

/-- DECLARE_RECEIVED (R48, R61, R77, R90). -/
def execDeclareReceived (header : Broadcast) (decl : Declaration) (s : State) : Result :=
  s.act (State.hearDeclare header decl)

/-- HALT_RECEIVED: the member joins the halt set, whatever the reason (R90). -/
def execHaltReceived (header : Broadcast) (_reason : HaltReason) (s : State) : Result :=
  s.act fun u => u.hear header.source 7 (fun p => p.heardFrame header.seq)
    fun t => t.addHolder header.source.toNat

/-- A good RESUME is heard: the member leaves the halt set (R90). -/
def State.hearResume (header : Broadcast) (u : State) : State :=
  u.hear header.source 8 (fun p => p.heardFrame header.seq) fun t => t.removeHolder header.source.toNat

/-- RESUME_RECEIVED: the member leaves the halt set (R90). -/
def execResumeReceived (header : Broadcast) (s : State) : Result := s.act (State.hearResume header)

/-- A handover frame reaches the Handover Engine when its destination and its sender are right (R48, R65). -/
def State.hearHandover (s : State) (h : Addressed) (kind : Nat) (neighbour : Option Nat) (take : State → State) :
    State :=
  s.hear h.source kind (fun p => p.heardFrame h.seq) fun t => if t.handoverFrame h neighbour then take t else t

/-- An OFFER is answered: declined with a reason, or accepted (R70, R71). -/
def State.answerOffer (s : State) (o : Offer) : State :=
  match s.declineReason o.form.id.toNat with
  | some reason => s.place .decline (.decline o.tag o.form.id reason)
  | none => s.acceptOffer o

/-- OFFER_RECEIVED (R70, R71). -/
def execOfferReceived (header : Addressed) (offer : Offer) (s : State) : Result :=
  s.act fun u => u.hearHandover header 2 u.params.upstream fun t => t.answerOffer offer

/-- A matching ACCEPT in OFFERED: CLEARED with the downstream class; the crossing starts in the same step if it may
(R69, R72, R73). -/
def State.takeAccept (s : State) (tag : Byte) (id : Word) (cls : MotionClass) : State :=
  if s.out.state = .offered ∧ s.out.carries tag id then
    { s with out := { s.out with state := .cleared, downClass := cls, answer := none } }
  else s

/-- ACCEPT_RECEIVED (R69). -/
def execAcceptReceived (header : Addressed) (tag : Byte) (id : Word) (cls : MotionClass) (s : State) : Result :=
  s.act fun u => u.hearHandover header 3 u.params.downstream fun t => t.takeAccept tag id cls

/-- A matching DECLINE in OFFERED: NONE with the offer bar, and OFFER_DECLINED unless it repeats the last decline
(R69). -/
def State.takeDecline (s : State) (tag : Byte) (id : Word) (reason : DeclineReason) : State :=
  if s.out.state = .offered ∧ s.out.carries tag id then
    let last := some (s.out.slab, reason)
    let t := { s with out := { s.out.toNone with offerBar := true, lastDecline := last } }
    if s.out.lastDecline = last then t
    else t.report .offerDeclined (some s.exitZone) (some s.out.slab) (some (reason.code : Nat))
  else s

/-- DECLINE_RECEIVED (R69). -/
def execDeclineReceived (header : Addressed) (tag : Byte) (id : Word) (reason : DeclineReason) (s : State) : Result :=
  s.act fun u => u.hearHandover header 4 u.params.downstream fun t => t.takeDecline tag id reason

/-- A matching ARRIVED in RUNNING_OUT completes the crossing (R77). -/
def State.takeArrived (s : State) (tag : Byte) (id : Word) : State :=
  if s.out.state = .runningOut ∧ s.out.carries tag id then s.completeCrossing else s

/-- ARRIVED_RECEIVED (R77). -/
def execArrivedReceived (header : Addressed) (tag : Byte) (id : Word) (s : State) : Result :=
  s.act fun u => u.hearHandover header 5 u.params.downstream fun t => t.takeArrived tag id

/-- A matching WITHDRAW in RESERVED drops the reservation (R79). -/
def State.takeWithdraw (s : State) (tag : Byte) (id : Word) : State :=
  if s.inc.state = .reserved ∧ s.inc.tag = tag ∧ s.inc.slab = id.toNat then s.dropReservation else s

/-- WITHDRAW_RECEIVED (R79). -/
def execWithdrawReceived (header : Addressed) (tag : Byte) (id : Word) (s : State) : Result :=
  s.act fun u => u.hearHandover header 6 u.params.upstream fun t => t.takeWithdraw tag id

/-! ## Attempts (R49, R50, R51) -/

/-- TRANSMIT_ATTEMPT_START: the picked slot's frame leaves for the transmitter once the line has been idle for the
required gap (R49, R50, R51). -/
def execTransmitAttemptStart (idle : Nat) (s : State) : Result :=
  if s.started && s.line.attempt.isNone && s.line.mayTransmit && decide (s.requiredGap ≤ idle) then
    .next (finish s s.beginAttempt)
  else .next s

/-- A collision of an attempt: the counts rise and the back-off gap is required; the 16th in a row is a transmit fault,
and an earlier one gives the frame back to its slot (R49, R50, R51). -/
def State.collide (s : State) (a : Attempt) : State :=
  let n := s.line.consecutive + 1
  let t := { s with line := { s.line with collisions := satSucc s.line.collisions, consecutive := n, backoff := true } }
  if 16 ≤ n then t.transmitFault a
  else { t with line := { t.line with attempt := none, slots := t.line.slots.giveBack a } }

/-- COLLISION (R49, R50). -/
def execCollision (s : State) : Result :=
  match s.line.attempt with
  | some a => .next (finish s (s.collide a))
  | none => .next s

/-- The attempt has completed: the sequence advances, the consecutive count is 0 and the ordinary gap holds (R47,
R49). -/
def LineInterface.completed (l : LineInterface) : LineInterface :=
  { l with attempt := none, txSeq := l.txSeq + 1, consecutive := 0, backoff := false }

/-- What follows from a completed frame: the declared fields are those of the last DECLARE, and an OFFER starts its
answer timer, or its WITHDRAW follows when it has been withdrawn (R53, R68, R78). -/
def State.afterSent (s : State) (a : Attempt) : State :=
  match a.frame.body with
  | .declare d => { s with line := { s.line with lastDeclared := some d } }
  | .offer o =>
    if a.withdrawn then s.place .withdraw (.withdraw o.tag o.form.id)
    else if s.out.state = .offered ∧ s.out.tag = o.tag then { s with out := { s.out with answer := some 300 } }
    else s
  | _ => s

/-- ATTEMPT_COMPLETE (R49). -/
def execAttemptComplete (s : State) : Result :=
  match s.line.attempt with
  | some a => .next (finish s ({ s with line := s.line.completed }.afterSent a))
  | none => .next s

end Sys2Proof.Machine
end

