-- ==== Sys2Proof/Machine/PortFrame.lean ====
section
/-! DEFINITION. The byte layout of the control port's requests and responses (R175, R177) and the frame check
(R176). -/

namespace Sys2Proof.Machine

/-! ## Blocks of a request payload (R177) -/

/-- The 22 bytes of a slab block (R177). -/
def slabBytes (b : SlabBlock) : List Byte :=
  bytesOfWord b.id ++ bytesOfHalf b.seq ++ [b.dest] ++ bytesOfHalf b.nominal ++ bytesOfHalf b.width ++
  bytesOfHalf b.thickness ++ bytesOfHalf b.weight ++ [b.cls, b.hostClass, b.permit] ++ bytesOfWord b.classAge

/-- The slab block of 22 bytes, none for another number of them (R177). -/
def slabOfBytes? : List Byte → Option SlabBlock
  | [i0, i1, i2, i3, q0, q1, d, n0, n1, w0, w1, t0, t1, g0, g1, c, m, p, a0, a1, a2, a3] =>
    some ⟨wordOf i0 i1 i2 i3, halfOf q0 q1, d, halfOf n0 n1, halfOf w0 w1, halfOf t0 t1, halfOf g0 g1, c, m, p,
      wordOf a0 a1 a2 a3⟩
  | _ => none

/-- The 7 bytes of a list entry (R177). -/
def entryBytes (e : EntryBlock) : List Byte := bytesOfWord e.id ++ bytesOfHalf e.seq ++ [e.permit]

/-- A number of list entries from their bytes, none when the length differs (R177). -/
def entriesOfBytes? : Nat → List Byte → Option (List EntryBlock)
  | 0, [] => some []
  | k + 1, i0 :: i1 :: i2 :: i3 :: q0 :: q1 :: p :: rest =>
    (entriesOfBytes? k rest).map fun es => ⟨wordOf i0 i1 i2 i3, halfOf q0 q1, p⟩ :: es
  | _, _ => none

/-- The 11 bytes of a hearth slab (R177). -/
def hearthSlabBytes (x : HearthSlabBlock) : List Byte :=
  bytesOfWord x.id ++ bytesOfHalf x.thickness ++ bytesOfHalf x.width ++ bytesOfHalf x.weight ++ [x.cls]

/-- The bytes of HEARTH_RESTORE after its slab count (R177). -/
def restoreBytes (b : RestoreBlock) : List Byte :=
  b.slabs.flatMap hearthSlabBytes ++ bytesOfHalf b.pitch ++ bytesOfHalf b.residence ++ bytesOfWord b.elapsed ++
  [b.offCentre, b.strokePresent] ++ bytesOfHalf b.stroke

/-- The payload of HEARTH_RESTORE after its slab count, none when the length differs (R177). -/
def restoreOfBytes? : Nat → List Byte → Option RestoreBlock
  | 0, [p0, p1, r0, r1, e0, e1, e2, e3, o, sp, s0, s1] =>
    some ⟨[], halfOf p0 p1, halfOf r0 r1, wordOf e0 e1 e2 e3, o, sp, halfOf s0 s1⟩
  | k + 1, i0 :: i1 :: i2 :: i3 :: t0 :: t1 :: w0 :: w1 :: g0 :: g1 :: c :: rest =>
    (restoreOfBytes? k rest).map fun b =>
      { b with slabs := ⟨wordOf i0 i1 i2 i3, halfOf t0 t1, halfOf w0 w1, halfOf g0 g1, c⟩ :: b.slabs }
  | _, _ => none

/-! ## Requests (R175, R177) -/

/-- Command code and payload of a request (R177); none for a command that no request gives. -/
def requestParts : Instr → Option (Byte × List Byte)
  | .setParameter id v => some (0x01, [id] ++ bytesOfWord v)
  | .start => some (0x02, [])
  | .restart => some (0x03, [])
  | .expectLanding z b => some (0x04, [z] ++ slabBytes b)
  | .cancelExpect z => some (0x05, [z])
  | .identify z b => some (0x06, [z] ++ slabBytes b)
  | .hold id => some (0x07, bytesOfWord id)
  | .release id => some (0x08, bytesOfWord id)
  | .readRecord id => some (0x09, bytesOfWord id)
  | .listAppend bank es => some (0x0A, [bank, byteOf es.length] ++ es.flatMap entryBytes)
  | .listClearPending => some (0x0B, [])
  | .listSwitch => some (0x0C, [])
  | .listSkipHead => some (0x0D, [])
  | .listInsertHead e => some (0x0E, entryBytes e)
  | .readList bank first last => some (0x0F, [bank, first, last])
  | .confirmCharged => some (0x10, [])
  | .confirmOnTable => some (0x11, [])
  | .hearthRestore b => some (0x12, [byteOf b.slabs.length] ++ restoreBytes b)
  | .hearthRemove i => some (0x13, [i])
  | .hearthClear => some (0x14, [])
  | .hearthConfirm => some (0x15, [])
  | .lineHalt => some (0x16, [])
  | .lineResume => some (0x17, [])
  | .releaseHolder n => some (0x18, [n])
  | .clearFault z => some (0x19, [z])
  | .watchSet slot id => some (0x1A, [slot] ++ bytesOfWord id)
  | .watchClear slot => some (0x1B, [slot])
  | .setAlertLevel l => some (0x1C, [l])
  | .readStatus => some (0x1D, [])
  | .readRange a b c d => some (0x1E, [a, b, c, d])
  | .readPeers => some (0x1F, [])
  | .readEvents n => some (0x20, [n])
  | _ => none

/-- The request frame of a command: code, payload length, payload (R175); none for a command that no request gives. -/
def requestBytes (i : Instr) : Option (List Byte) :=
  (requestParts i).map fun p => [p.1] ++ bytesOfHalf (BitVec.ofNat 16 p.2.length) ++ p.2

/-- The request of a command code and a payload, none for an unknown code or a length it does not allow
(R176, R177). -/
def requestOfPayload? (code : Byte) (payload : List Byte) : Option Instr :=
  match code.toNat, payload with
  | 0x01, [id, a, b, c, d] => some (.setParameter id (wordOf a b c d))
  | 0x02, [] => some .start
  | 0x03, [] => some .restart
  | 0x04, z :: rest => (slabOfBytes? rest).map (.expectLanding z)
  | 0x05, [z] => some (.cancelExpect z)
  | 0x06, z :: rest => (slabOfBytes? rest).map (.identify z)
  | 0x07, [a, b, c, d] => some (.hold (wordOf a b c d))
  | 0x08, [a, b, c, d] => some (.release (wordOf a b c d))
  | 0x09, [a, b, c, d] => some (.readRecord (wordOf a b c d))
  | 0x0A, bank :: k :: rest => (entriesOfBytes? k.toNat rest).map (.listAppend bank)
  | 0x0B, [] => some .listClearPending
  | 0x0C, [] => some .listSwitch
  | 0x0D, [] => some .listSkipHead
  | 0x0E, [i0, i1, i2, i3, q0, q1, p] => some (.listInsertHead ⟨wordOf i0 i1 i2 i3, halfOf q0 q1, p⟩)
  | 0x0F, [bank, first, last] => some (.readList bank first last)
  | 0x10, [] => some .confirmCharged
  | 0x11, [] => some .confirmOnTable
  | 0x12, k :: rest => (restoreOfBytes? k.toNat rest).map .hearthRestore
  | 0x13, [i] => some (.hearthRemove i)
  | 0x14, [] => some .hearthClear
  | 0x15, [] => some .hearthConfirm
  | 0x16, [] => some .lineHalt
  | 0x17, [] => some .lineResume
  | 0x18, [n] => some (.releaseHolder n)
  | 0x19, [z] => some (.clearFault z)
  | 0x1A, [slot, a, b, c, d] => some (.watchSet slot (wordOf a b c d))
  | 0x1B, [slot] => some (.watchClear slot)
  | 0x1C, [l] => some (.setAlertLevel l)
  | 0x1D, [] => some .readStatus
  | 0x1E, [a, b, c, d] => some (.readRange a b c d)
  | 0x1F, [] => some .readPeers
  | 0x20, [n] => some (.readEvents n)
  | _, _ => none

/-- The frame check of R176: the command of a request's bytes, none for a BAD_FRAME. -/
def requestOfBytes? : List Byte → Option Instr
  | code :: n0 :: n1 :: payload =>
    let n := (halfOf n0 n1).toNat
    if n ≤ 512 ∧ payload.length = n then requestOfPayload? code payload else none
  | _ => none

/-- A transaction of these bytes is a request: at least one byte, the first not 00h (R175). -/
def isRequest : List Byte → Bool
  | [] => false
  | b :: _ => b != 0

/-! ## Responses (R175) -/

/-- The response frame: status, reason, flags, payload length, payload (R175). -/
def responseBytes (r : Response) : List Byte :=
  [byteOf r.status.code, byteOf r.reason.code, byteOfBool r.overrun] ++
  bytesOfHalf (BitVec.ofNat 16 r.payload.length) ++ r.payload

end Sys2Proof.Machine
end

