-- ==== Sys2Proof/Machine/PortOps.lean ====
section
/-! DEFINITION. The Control Port's exchange (R175, R176): taking a request, answering it, overruns and fetches. -/

namespace Sys2Proof.Machine

/-- The response OK with a payload. -/
def Response.okWith (payload : List Byte) : Response := { status := .ok, payload := payload }

/-- The response OK with an empty payload. -/
def Response.done : Response := { status := .ok }

/-- The response REFUSED with a reason. -/
def Response.refuse (reason : Reason) : Response := { status := .refused, reason := reason }

/-- The frame a fetch clocks out while no response is held: BUSY with nothing in it (R176). -/
def Response.busy : Response := { status := .busy }

/-- The Control Port's part of the state changed. -/
def State.modPort (s : State) (f : ControlPort → ControlPort) : State := { s with port := f s.port }

/-- MISO carries FFh through a request of a number of bytes (R175). -/
def quietMiso (n : Nat) : List Byte := List.replicate n 0xFF

/-- A response is held for the host, with the flag of the overruns that came while the request was in work (R176). -/
def State.answer (s : State) (r : Response) : State :=
  s.modPort fun p => { p with state := .answered { r with overrun := match p.state with
    | .inWork o => o
    | _ => false } }

/-- A request that ends while the port is in work or answered is discarded unread and sets the OVERRUN flag (R176). -/
def PortState.overrun : PortState → PortState
  | .idle => .idle
  | .inWork _ => .inWork true
  | .answered r => .answered { r with overrun := true }

/-- A request of a number of bytes reaches the port. While RESET# is low nothing is acted on; an idle port takes it and
holds its response; another one discards it as an overrun (R175, R176, log 8). -/
def hostRequest (bytes : Nat) (s : State) (run : State → State × Response) : State :=
  if s.resetLow then s
  else
    let t := s.modPort fun p => { p with miso := quietMiso bytes }
    match s.port.state with
    | .idle =>
      let out := run t
      out.1.answer out.2
    | _ => t.modPort fun p => { p with state := p.state.overrun }

/-- A request that changes the station: what follows from it is part of the same step (R176, log 7). -/
def hostCommand (bytes : Nat) (s : State) (run : State → State × Response) : State :=
  hostRequest bytes s fun t =>
    let out := run t
    (finish t out.1, out.2)

/-- A request refused MODE before START (11.2). -/
def whenStarted (s : State) (run : State → State × Response) : State × Response :=
  if s.started then run s else (s, .refuse .mode)

/-- The first refusal of a list of tests made in order. -/
def firstRefusal : List (Bool × Reason) → Option Reason
  | [] => none
  | (fails, r) :: rest => if fails then some r else firstRefusal rest

/-- A request whose tests are made in order: the first that fails refuses it and changes nothing. -/
def tested (s : State) (tests : List (Bool × Reason)) (run : State → State × Response) : State × Response :=
  match firstRefusal tests with
  | some r => (s, .refuse r)
  | none => run s

/-- A fetch clocks out a response frame and FFh after it (R175, R176): the first byte of the transaction carries
FFh. -/
def fetchMiso (clocked : Nat) (r : Response) : List Byte :=
  [0xFF] ++ (responseBytes r).take clocked ++ List.replicate (clocked - (responseBytes r).length) 0xFF

end Sys2Proof.Machine
end

