-- ==== Sys2Proof/Machine/Halts.lean ====
section
/-! DEFINITION. LINE_HALT, LINE_RESUME, RELEASE_HOLDER and the ESTOP input (Chapter 5). -/

namespace Sys2Proof.Machine

/-- LINE_HALT adds the own cause HOST; MODE before START (R91, R92). -/
def execLineHalt (s : State) : Result :=
  .next (hostCommand 3 s fun t => whenStarted t fun t => (t.addCause .host, .done))

/-- The request LINE_RESUME, MODE before START (R91, R92). -/
def State.takeResume (t : State) : State × Response := whenStarted t fun t => (t.removeCause .host, .done)

/-- LINE_RESUME removes the own cause HOST; MODE before START (R91, R92). -/
def execLineResume (s : State) : Result := .next (hostCommand 3 s State.takeResume)

/-- The request RELEASE_HOLDER: MODE, RANGE, STATE, or the holder leaves the set (R100). -/
def State.takeReleaseHolder (station : Byte) (t : State) : State × Response :=
  whenStarted t fun t =>
    tested t
      [(!t.params.isMember station.toNat, .range), (station.toNat == t.params.stationNo, .state)]
      fun t => (t.removeHolder station.toNat, .done)

/-- RELEASE_HOLDER: MODE, RANGE, STATE for the own number; then the holder leaves this station's set (R100). -/
def execReleaseHolder (station : Byte) (s : State) : Result :=
  .next (hostCommand 4 s (State.takeReleaseHolder station))

/-- ESTOP_ACTIVE: the accepted edge to active adds the cause ESTOP (R91). -/
def execEstopActive (s : State) : Result :=
  if s.pins.estop then .next s
  else
    let t := { s with pins := { s.pins with estop := true } }
    .next (if t.started then finish t (t.addCause .estop) else t)

/-- ESTOP_INACTIVE: the accepted edge to inactive removes the cause ESTOP (R91). -/
def execEstopInactive (s : State) : Result :=
  if s.pins.estop then
    let t := { s with pins := { s.pins with estop := false } }
    .next (if t.started then finish t (t.removeCause .estop) else t)
  else .next s

end Sys2Proof.Machine
end

