-- ==== Sys2Proof/Machine/Reads.lean ====
section
/-! DEFINITION. The payloads of the reads (R16, R41, R64, R114, R164, R182, R184): the fields their rules list, in the
order listed, in the sizes of R177 (log 14, log 15, log 16). -/

namespace Sys2Proof.Machine

/-! ## Fields (R177) -/

/-- A field of one byte. -/
def u1 (n : Nat) : List Byte := [byteOf n]

/-- A field of two bytes. -/
def u2 (n : Nat) : List Byte := bytesOfHalf (BitVec.ofNat 16 n)

/-- A field of four bytes: the size where neither R177 nor R46 gives one. -/
def u4 (n : Nat) : List Byte := bytesOfWord (BitVec.ofNat 32 n)

/-- What a field of limits `lo` to `hi` shows: the number, or a free value where the field cannot hold it (log 65). -/
def shown (lo hi v : Int) : Int := if lo ≤ v ∧ v ≤ hi then v else Config.readValueOutOfRange v

/-- A signed field of four bytes, in two's complement (R177, log 65). -/
def i4 (v : Int) : List Byte := bytesOfWord (BitVec.ofInt 32 (shown (-2147483648) 2147483647 v))

/-- A yes/no field. -/
def yn (b : Bool) : List Byte := [byteOfBool b]

/-- A field that can be absent: 1 and the value, or 0. -/
def opt {α : Type} (f : α → List Byte) : Option α → List Byte
  | some x => [1] ++ f x
  | none => [0]

/-- A list or set of items, preceded by its number in one byte. -/
def items {α : Type} (f : α → List Byte) (xs : List α) : List Byte := u1 xs.length ++ xs.flatMap f

/-- A field shown only while a condition holds. -/
def present {α : Type} (c : Bool) (x : α) : Option α := if c then some x else none

/-- Places of list-valued fields in their owners' tables, from 0 (R177). -/
def RecordStatus.place (x : RecordStatus) : Nat := x.ctorIdx

/-- A timer that can be frozen: stopped 0, running 1, frozen 2, with its remaining time (log 15). -/
def timerField (left : Option Nat) (frozen : Bool) : List Byte :=
  match left with
  | none => u4 0 ++ [0]
  | some n => u4 (if frozen then 2 else 1) ++ [1] ++ u4 n

/-! ## READ_RECORD (R16) -/

/-- The payload of READ_RECORD for a record (R16). The base motion class and the hold reasons, which R16 names both among
the fields of R1 and in an item of their own, are sent once, at that item (log 16). -/
def State.recordPayload (s : State) (r : Record) : List Byte :=
  u4 r.status.place ++ u1 ((s.zoneOf r).getD 0) ++
  u4 r.id ++ u2 r.seq ++ u1 r.dest ++ u2 r.nominal ++ opt u2 r.measured ++ u2 r.width ++ u2 r.thickness ++
  u2 r.weight ++ u1 r.cls.code ++ i4 r.classStamp ++ u1 r.hostClass.code ++ yn r.permit ++
  opt i4 (r.landing.map (·.1)) ++ opt u1 (r.landing.map (·.2)) ++
  i4 (s.classAge r) ++ opt i4 (s.landingAge r) ++
  items (fun h : HoldReason => u4 h.ctorIdx) r.holds.toList ++
  u1 r.baseClass.code ++ u1 r.ownClass.code ++ yn (s.store.watched r.id)

/-! ## READ_LIST (R114) -/

/-- Where an entry's slab is known: the pool with status and zone, the hearth record, or not known (R114). -/
def State.whereKnown (s : State) (id : Nat) : List Byte :=
  match s.record? id with
  | some r => u4 0 ++ u4 r.status.place ++ u1 ((s.zoneOf r).getD 0)
  | none => if s.hearth.holdsId id then u4 1 else u4 2

/-- The entries of a bank at the indices from `first` to `last`, with their indices (R114). -/
def span {α : Type} (xs : List α) (first last : Nat) : List (Nat × α) :=
  (List.range xs.length).filterMap fun i =>
    if first ≤ i ∧ i ≤ last then (xs[i]?).map fun x => (i, x) else none

/-- The payload of READ_LIST (R114). -/
def State.listPayload (s : State) (code : Nat) (es : List ListEntry) (first last : Nat) : List Byte :=
  u1 code ++ u4 es.length ++ u4 s.lists.suspect.toNat ++ yn s.lists.deferred ++
  items (fun p : Nat × ListEntry =>
    u1 p.1 ++ u4 p.2.id ++ u2 p.2.seq ++ yn p.2.permit ++ s.whereKnown p.2.id) (span es first last)

/-! ## READ_RANGE (R41, R136, R164, R181) -/

/-- Zone state with fault kind and fault partner when in FAULT (R41). -/
def Zone.stateField (z : Zone) : List Byte :=
  let f := if z.state = .fault then z.fault else none
  u4 z.state.ctorIdx ++ opt (fun x : ZoneFault => u4 x.kind.ctorIdx) f ++ opt u1 (f.bind (·.partner))

/-- The slab IDs READ_RANGE shows for zone `k`: occupants, the EXPECTED record, the INCOMING record of a receiving
entry zone (R41), from its reservation on (log 55). -/
def State.shownIds (s : State) (k : Nat) : List Nat :=
  let z := s.zone k
  z.occ ++ z.expected.toList ++ (if s.crossingIn k then [s.inc.slab] else [])

/-- A drive's run output and speed selects (R23, R41). -/
def driveField (c : MotionClass) : List Byte :=
  let l := driveLines c
  yn l.1 ++ yn l.2.1 ++ yn l.2.2

/-- A door group's run output, speed selects and direction, released while it is off (R118, R136). -/
def groupField (g : Option (MotionClass × Direction)) : List Byte :=
  driveField ((g.map (·.1)).getD .held) ++ opt (fun d : Direction => u4 d.ctorIdx) (g.map (·.2))

/-- The drive outputs of zone `k`: the door zone's two groups in place of the single drive (R41, R136). -/
def State.drivesField (s : State) (k : Nat) : List Byte :=
  if s.isDoor k then groupField (s.groupDrive .near) ++ groupField (s.groupDrive .far)
  else driveField (s.zoneDrive k)

/-- One zone of the zones group (R41). -/
def State.zoneItem (s : State) (k : Nat) : List Byte :=
  let z := s.zone k
  let p := s.zonePins k
  z.stateField ++ items u4 (s.shownIds k) ++ yn z.departing ++ yn z.handleMoved ++ u1 z.zoneClass.code ++
  yn z.landing ++ items (fun id => u1 (s.effClass id k).code) z.occ ++ s.drivesField k ++
  yn p.entry ++ yn p.rest ++ yn p.landing ++ opt u4 z.timer ++ opt u4 z.lastTransit ++ yn z.verified

/-- A slab of a hearth position (R164). -/
def HearthSlab.field (x : HearthSlab) : List Byte :=
  u4 x.id ++ u2 x.thickness ++ u2 x.width ++ u2 x.weight ++ u1 x.cls.code

/-- One position of the hearth group (R164). -/
def State.positionItem (s : State) (i : Nat) (p : Position) : List Byte :=
  u1 i ++ u2 p.number ++ items HearthSlab.field p.slabs ++ u2 p.pitch ++ u4 p.weightSum ++ u2 p.residence ++
  yn p.saturated ++ i4 p.chargeTime ++ i4 (s.elapsed p) ++ yn p.offCentre ++ opt u2 p.stroke ++ opt i4 p.margin

/-- The payload of READ_RANGE: the number of items in each group, then the items (R181). The hearth group selects by the
number of positions, also while the count lags behind it (R159; DESIGN CHOICE, log 84). -/
def State.rangePayload (s : State) (zFirst zLast hFirst hLast : Nat) : List Byte :=
  let zs := span s.zones zFirst zLast
  let ps := span s.hearth.positions hFirst hLast
  u1 zs.length ++ u1 ps.length ++ zs.flatMap (fun z => s.zoneItem z.1) ++
  ps.flatMap (fun p => s.positionItem p.1 p.2)

/-! ## READ_PEERS (R64) -/

/-- A declaration's fields, the slab ID absent where it is 0 (R46, R64). -/
def declarationField (d : Declaration) : List Byte :=
  u1 d.mode.code ++ u1 d.entry.code ++ opt bytesOfWord (if d.entryId = 0 then none else some d.entryId) ++
  u1 d.exit.code ++ [d.doorOccupancy] ++ yn d.holding ++ bytesOfHalf d.dreq ++ bytesOfHalf d.davg ++
  bytesOfHalf d.freeLength ++ [d.count, d.faults]

/-- One entry of the peer table (R64). -/
def Peer.field (p : Peer) : List Byte :=
  u1 p.station ++ u4 p.state.ctorIdx ++ opt u4 p.age ++ u4 p.consecutive ++ opt (fun b : Byte => u4 b.toNat) p.lastSeq ++
  u4 p.gaps ++ yn p.changed ++ opt declarationField p.last

/-- Station mode: its place, which for LISTENING, RUN and HALTED is also its code in R45. -/
def Mode.field (m : Mode) : List Byte := u1 m.ctorIdx

/-- Isolation cause, or none. -/
def LineInterface.isolationField (l : LineInterface) : List Byte :=
  opt (fun c : Isolation => u4 c.ctorIdx) l.isolation

/-- The payload of READ_PEERS (R64). -/
def State.peersPayload (s : State) : List Byte :=
  let l := s.line
  l.mode.field ++ l.isolationField ++ u4 l.stage.ctorIdx ++
  opt u4 (present (l.stage == .listen || l.stage == .count) l.tally) ++
  u4 l.lineErrors ++ u4 l.foreign ++ u4 l.collisions ++ u4 l.txSeq.toNat ++ items Peer.field l.peers

/-! ## READ_EVENTS (R184) -/

/-- A report with every field of R183. -/
def Report.field (r : Report) : List Byte :=
  u4 r.number.toNat ++ bytesOfWord r.time ++ u4 r.kind.code ++ u4 r.kind.priority ++ opt u1 r.zone ++ opt u4 r.slab ++
  opt i4 r.value ++ yn r.lostAfter ++ u4 r.lost

/-- The payload of READ_EVENTS: the reports removed, and the number still queued (R184). -/
def eventsPayload (taken rest : List Report) : List Byte := items Report.field taken ++ u4 rest.length

/-! ## READ_STATUS (R182) -/

/-- Seconds of a timer, rounded up (log 15). -/
def secondsLeft (t : Timer) : Option Nat := t.map fun ms => (ms + 999) / 1000

/-- The Halt Unit's state (R101). Each holder's peer state has a presence byte, 0 for the own number, which has no peer
entry (R60, log 69). -/
def State.haltField (s : State) : List Byte :=
  items (fun n => u1 n ++ opt (fun p : Peer => u4 p.state.ctorIdx) (s.line.peer? n)) s.halt.holders ++
  items (fun r : HaltReason => u1 r.code) s.halt.causes.toList ++ s.line.mode.field ++
  opt u4 (secondsLeft s.creep) ++
  opt (fun r : LimboReason => u4 r.ctorIdx) (if s.cycle.state = .limbo then s.cycle.limbo else none)

/-- The outgoing context (R66, R88). The tag counter takes the one byte of a tag (log 76), and exit clear a presence byte,
1 in RUNNING_OUT (log 77). -/
def Outgoing.field (o : Outgoing) : List Byte :=
  let outside := o.state != .idle
  u4 o.state.ctorIdx ++ [o.tagCounter] ++ opt (fun b : Byte => [b]) (present outside o.tag) ++
  opt u4 (present outside o.slab) ++
  opt (fun c : MotionClass => u1 c.code) (present (o.state == .cleared || o.state == .runningOut) o.downClass) ++
  opt u4 o.answer ++ opt yn (present (o.state == .runningOut) o.exitClear) ++ yn o.offerBar ++
  opt (fun d : Nat × DeclineReason => u4 d.1 ++ u1 d.2.code) o.lastDecline

/-- The incoming context (R67, R88). -/
def Incoming.field (c : Incoming) : List Byte :=
  let outside := c.state != .idle
  u4 c.state.ctorIdx ++ opt (fun b : Byte => [b]) (present outside c.tag) ++ opt u4 (present outside c.slab) ++
  opt (fun x : MotionClass => u1 x.code) (present outside c.upClass)

/-- One track with what READ_STATUS derives for it (R115, R136). -/
def State.trackField (s : State) (t : Track) : List Byte :=
  let pos := trackPosition s.params t
  u4 t.id ++ u4 t.role.ctorIdx ++ i4 t.count ++ u4 t.encoder.ctorIdx ++ opt u4 t.target ++ u4 t.corrections ++
  yn t.handleMoved ++ u4 pos ++ i4 ((pos : Int) - (s.lengthOf t.id : Nat)) ++
  opt i4 (t.target.map fun _ => trackError s.params t)

/-- The door zone context (R115, R136). -/
def State.doorField (s : State) : List Byte :=
  let d := s.door
  u4 d.substate.ctorIdx ++ items s.trackField d.tracks ++ yn d.offCentre ++
  timerField (secondsLeft d.pairTimer) (!s.pairTimerRuns) ++ opt u4 d.stallNear ++ opt u4 d.stallFar ++ opt i4 d.lastError

/-- The waits reported, in the order of R137. -/
def Waits.toList (w : Waits) : List Nat :=
  (if w.notIntact then [0] else []) ++ (if w.hearthWait then [1] else []) ++ (if w.permitWait then [2] else [])

/-- The charge cycle context with its inputs and outputs (R137, R152). Late push done is sent in every state and has no
presence byte (log 77). -/
def State.cycleField (s : State) : List Byte :=
  let c := s.cycle
  u4 c.state.ctorIdx ++ opt (items u4) (if c.charge = [] then none else some c.charge) ++ yn c.offCentre ++
  u2 c.pitch ++ u4 c.weightSum ++ opt u2 c.stroke ++
  timerField c.timer (s.line.mode != .run) ++ yn c.committing ++
  opt (fun r : LimboReason => u4 r.ctorIdx) c.limbo ++ yn c.latePush ++ items u4 c.waits.toList ++
  yn s.pins.doorOpen ++ yn s.pins.doorShut ++ yn s.pins.pushDone ++ yn s.pins.barHome ++ yn s.pins.furnPermit ++
  yn s.doorOpenCmd ++ yn s.pushCmd

/-- The hearth summary (R164). H − F takes the two bytes of R46's free length, and is a free value below 0 (log 64). -/
def State.hearthField (s : State) : List Byte :=
  let h := s.hearth
  u1 h.count ++ u4 h.fill ++ u4 h.load ++
  bytesOfHalf (BitVec.ofInt 16 (shown 0 65535 ((s.params.hearthLength : Int) - (h.fill : Nat)))) ++
  u4 h.integrity.ctorIdx ++ u2 h.nextNumber

/-- The lowest index of a position whose need equals Dreq (R174). Where the record holds positions and no need equals
Dreq, none is shown (log 75). -/
def State.dreqIndex (s : State) : Option Nat :=
  (needsFrom s.now 0 s.hearth.positions).findIdx? fun n => n == s.pace.dreq

/-- The Pace Calculator's state (R174). The age of the last discharge is taken modulo 2^32, as R166's interval is
(DESIGN CHOICE, log 13). -/
def State.paceField (s : State) : List Byte :=
  let p := s.pace
  items u4 p.ring ++
  opt (fun l : Word × Word => bytesOfWord l.1 ++ bytesOfWord l.2 ++ bytesOfWord (s.clk.seconds - l.2)) p.last ++
  u2 p.davg ++ yn p.stable ++ u2 p.dreq ++ yn p.saturated ++ opt u1 s.dreqIndex ++ u4 p.linePace ++ u1 p.source ++
  u4 p.reported ++
  items (fun q : Peer => u4 q.state.ctorIdx ++ opt (fun d : Declaration => bytesOfHalf d.dreq) q.last ++
    yn (q.state == .qualified)) s.line.peers

/-- The payload of READ_STATUS (R182). The level of ALERT# takes one byte, 1 for released and 0 for driven low
(log 78). -/
def State.statusPayload (s : State) : List Byte :=
  yn s.started ++ u4 s.lastReset.ctorIdx ++ bytesOfWord s.clk.seconds ++ s.line.mode.field ++
  s.line.isolationField ++ s.haltField ++ s.out.field ++ s.inc.field ++ (s.zone 0).stateField ++
  (s.zone s.exitZone).stateField ++ s.doorField ++ s.cycleField ++ s.hearthField ++ s.paceField ++
  u4 s.lists.suspect.toNat ++ yn s.lists.deferred ++ u4 s.port.reports.length ++ u1 s.port.alertLevel ++
  yn (!s.alertLow)

end Sys2Proof.Machine
end

