-- ==== Sys2Proof/Machine/HearthCommands.lean ====
section
/-! DEFINITION. CONFIRM_CHARGED and CONFIRM_ON_TABLE (Chapter 8), HEARTH_RESTORE, HEARTH_REMOVE, HEARTH_CLEAR,
HEARTH_CONFIRM and DISCHARGE (Chapter 9). -/

namespace Sys2Proof.Machine

/-- CONFIRM_CHARGED: MODE before START, STATE outside LIMBO; the door zone leaves FAULT and the commit runs (R150). -/
def execConfirmCharged (s : State) : Result :=
  .next (hostCommand 3 s fun t => whenStarted t fun t =>
    tested t [(t.cycle.state != .limbo, .state)] fun t =>
      let u := t.answerLimbo
      ((u.setCycle { u.cycle with limbo := none }).commit, .done))

/-- The request CONFIRM_ON_TABLE: MODE, STATE, or the charge returns to the table and the cycle to IDLE (R151). -/
def State.takeOnTable (t : State) : State × Response :=
  whenStarted t fun t =>
    tested t [(t.cycle.state != .limbo, .state), (!t.pins.barHome, .state)] fun t =>
      let u := (t.answerLimbo.setSubstate .positioned).reportCharge .chargeReturned
      (u.setCycle u.cycle.toIdle, .done)

/-- CONFIRM_ON_TABLE: STATE outside LIMBO or while BAR_HOME is inactive; the charge returns to the table and the cycle
to IDLE (R151). -/
def execConfirmOnTable (s : State) : Result := .next (hostCommand 3 s State.takeOnTable)

/-- HEARTH_RESTORE: RANGE, STATE, FULL, DUPLICATE, FULL; then the position joins the young end and the response carries
its charge number (R160). -/
def execHearthRestore (block : RestoreBlock) (s : State) : Result :=
  .next (hostCommand (16 + 11 * block.slabs.length) s fun t =>
    match restorePosition? block t.now t.hearth.nextNumber with
    | none => (t, .refuse .range)
    | some p =>
      tested t
        [(t.editsRefused, .state), (decide (48 ≤ t.hearth.positions.length), .full),
         (t.restoreDuplicate (p.slabs.map fun x => x.id), .duplicate),
         (t.started && !t.hearth.hasRoom t.params p.pitch p.weightSum, .full)]
        fun t => ({ t with hearth := t.hearth.append p }.recomputeDreq, .okWith (u2 p.number)))

/-- The response of HEARTH_REMOVE: charge number, number of slabs, slab IDs (R161, R177). -/
def removedPayload (p : Position) : List Byte := u2 p.number ++ items (fun x : HearthSlab => u4 x.id) p.slabs

/-- HEARTH_REMOVE: RANGE for an index without a position, STATE while a charge is under way; then the position leaves
(R161, log 74). -/
def execHearthRemove (index : Byte) (s : State) : Result :=
  .next (hostCommand 4 s fun t =>
    match t.hearth.positions[index.toNat]? with
    | none => (t, .refuse .range)
    | some p =>
      tested t [(decide (47 < index.toNat), .range), (t.editsRefused, .state)] fun t =>
        ({ t with hearth := t.hearth.removeAt index.toNat }.recomputeDreq, .okWith (removedPayload p)))

/-- HEARTH_CLEAR: STATE while a charge is under way; then no position remains (R162). -/
def execHearthClear (s : State) : Result :=
  .next (hostCommand 3 s fun t =>
    tested t [(t.editsRefused, .state)] fun t =>
      ({ t with hearth := t.hearth.cleared }.recomputeDreq, .okWith (u1 t.hearth.positions.length)))

/-- HEARTH_CONFIRM: the integrity is INTACT (R158). -/
def execHearthConfirm (s : State) : Result :=
  .next (hostCommand 3 s fun t => ({ t with hearth := { t.hearth with integrity := .intact } }, .done))

/-- The discharge of the oldest position: removal, DISCHARGED, the watch hits, the hand-on to the Pace Calculator, and
Dreq (R157, R171). -/
def State.dischargeOldest (s : State) (p : Position) (stamp : Word) : State :=
  let t := { s with hearth := s.hearth.removeAt 0 }
  let u := t.report .discharged none (p.slabs.head?.map fun x => x.id) (some (s.elapsed p))
  let v := p.slabs.foldl (fun x slab => x.watchHit slab.id none 6) u
  (v.takeDischarge stamp).recomputeDreq

/-- An untracked discharge: DISCHARGE_UNTRACKED, and the hand-on (R157). -/
def State.dischargeUntracked (s : State) (stamp : Word) : State :=
  (s.report .dischargeUntracked).takeDischarge stamp

/-- DISCHARGE: the oldest position that is not the one of a commit in progress is removed, or the discharge is
untracked; a transfer station does not act on the input, and no station does before START enables it (R157, R179). -/
def execDischarge (stamp : Word) (s : State) : Result :=
  if s.phase != .unstarted && s.params.hasFurnace then
    match s.hearth.positions with
    | p :: rest =>
      if s.cycle.committing && rest.isEmpty then .next (finish s (s.dischargeUntracked stamp))
      else .next (finish s (s.dischargeOldest p stamp))
    | [] => .next (finish s (s.dischargeUntracked stamp))
  else .next s

end Sys2Proof.Machine
end

