-- ==== Sys2Proof/Machine/Lists.lean ====
section
/-! DEFINITION. LIST_APPEND, LIST_CLEAR_PENDING, LIST_SWITCH, LIST_SKIP_HEAD, LIST_INSERT_HEAD and READ_LIST
(Chapter 6). -/

namespace Sys2Proof.Machine

/-- LIST_APPEND on a request whose whole passes: entries join the bank until one is refused; the response carries their
number whether OK or REFUSED (R104, R177). -/
def State.appendEntries (s : State) (b : Bank) (es : List ListEntry) : State × Response :=
  let out := appendAll (s.lists.bank b) es
  let t := { s with lists := s.lists.setBank b out.1 }
  match out.2.2 with
  | none => (t, .okWith (u1 out.2.1))
  | some r => (t, { status := .refused, reason := r, payload := u1 out.2.1 })

/-- LIST_APPEND refused RANGE as a whole: nothing is appended (R104). -/
def appendRange (s : State) : State × Response :=
  (s, { status := .refused, reason := .range, payload := u1 0 })

/-- The request LIST_APPEND: RANGE as a whole, or entries appended one at a time (R104). -/
def State.takeAppend (bank : Byte) (entries : List EntryBlock) (t : State) : State × Response :=
  if inRange 1 24 entries.length then
    match Bank.ofCode? bank.toNat, entries? entries with
    | some b, some es => t.appendEntries b es
    | _, _ => appendRange t
  else appendRange t

/-- LIST_APPEND: RANGE for the whole request, or entries appended one at a time (R104). -/
def execListAppend (bank : Byte) (entries : List EntryBlock) (s : State) : Result :=
  .next (hostCommand (5 + 7 * entries.length) s (State.takeAppend bank entries))

/-- LIST_CLEAR_PENDING: PENDING is emptied, the integrity is INTACT, a deferred switch is cancelled, and the response
says whether one was (R105). -/
def execListClearPending (s : State) : Result :=
  .next (hostCommand 3 s fun t =>
    ({ t with lists := { t.lists with pendingBank := [], suspect := false, deferred := false } },
     .okWith (yn t.lists.deferred)))

/-- LIST_SWITCH: refused STATE while one is deferred, deferred while the cycle or a pair wait holds the lists, applied at
once otherwise, REFUSED FULL when it fails (R108, R110, R111). -/
def execListSwitch (s : State) : Result :=
  .next (hostCommand 3 s fun t =>
    if t.lists.deferred then (t, .refuse .state)
    else if t.switchDeferred then
      ({ t with lists := { t.lists with deferred := true } }, { status := .accepted })
    else (t.applySwitch, if t.switchFits then .done else .refuse .full))

/-- The request LIST_SKIP_HEAD: the head of ACTIVE leaves, STATE on an empty ACTIVE (R106). -/
def State.takeSkip (t : State) : State × Response :=
  match t.lists.active with
  | [] => (t, .refuse .state)
  | e :: es => ({ t with lists := { t.lists with active := es } }, .okWith (u4 e.id))

/-- LIST_SKIP_HEAD: the head of ACTIVE is removed and its slab ID returned; STATE on an empty ACTIVE (R106). -/
def execListSkipHead (s : State) : Result := .next (hostCommand 3 s State.takeSkip)

/-- The request LIST_INSERT_HEAD: RANGE, DUPLICATE, FULL, or an entry in front of ACTIVE (R106). -/
def State.takeInsert (entry : EntryBlock) (t : State) : State × Response :=
  match listEntry? entry with
  | none => (t, .refuse .range)
  | some e =>
    tested t [(bankHolds t.lists.active e.id, .duplicate), (decide (24 ≤ t.lists.active.length), .full)] fun t =>
      ({ t with lists := { t.lists with active := e :: t.lists.active } }, .done)

/-- LIST_INSERT_HEAD: an entry in front of ACTIVE; RANGE, DUPLICATE, FULL in this order (R106). -/
def execListInsertHead (entry : EntryBlock) (s : State) : Result :=
  .next (hostCommand 10 s (State.takeInsert entry))

/-- READ_LIST: a span of one bank; RANGE for the bank's code or an index above 23 (R114). -/
def execReadList (bank first last : Byte) (s : State) : Result :=
  .next (hostRequest 6 s fun t =>
    match Bank.ofCode? bank.toNat with
    | none => (t, .refuse .range)
    | some b =>
      if first.toNat ≤ 23 ∧ last.toNat ≤ 23 then
        (t, .okWith (t.listPayload bank.toNat (t.lists.bank b) first.toNat last.toNat))
      else (t, .refuse .range))

end Sys2Proof.Machine
end

