-- ==== Sys2Proof/Machine/StartOps.lean ====
section
/-! DEFINITION. START (R179): its tests, what each block latches, the pool check (R15), and the reconciliation with the
sensors (R38, R39). -/

namespace Sys2Proof.Machine

/-! ## The tests of R179 -/

/-- Pitch and weight sum of a charge held in LIMBO, 0 when there is none (R163). -/
def Cycle.unresolved (c : Cycle) : Nat × Nat := if c.state = .limbo then (c.pitch, c.weightSum) else (0, 0)

/-- The tests of R179 in order: whether each fails, its reason, and the id of the parameter it names. -/
def State.startTests (s : State) : List (Bool × Reason × Nat) :=
  let p := s.params
  let f := p.hasFurnace
  let half := ceilHalf p.doorWidth
  let ps := s.hearth.positions
  let lim := s.cycle.unresolved
  [(!p.isMember p.stationNo, .range, 2),
   (f && decide (p.zoneCount ≤ p.doorZone), .range, 7),
   (f && p.landing p.doorZone, .range, 14 + p.doorZone),
   (decide (p.heating .cold < p.heating .warm), .range, 41),
   (decide (p.heating .warm < p.heating .hot), .range, 42),
   (f && decide (p.doorAxis < half), .range, 30),
   (f && decide (p.doorLength < p.doorAxis + half), .range, 30),
   (!f && !ps.isEmpty, .integrity, 5),
   (decide (p.hearthLength < fillOf ps + lim.1), .integrity, 38),
   (decide (p.loadCapacityKg < loadOf ps + lim.2), .integrity, 39)]

/-- The first test that fails (R179). -/
def firstFailure : List (Bool × Reason × Nat) → Option (Reason × Nat)
  | [] => none
  | (fails, r) :: rest => if fails then some r else firstFailure rest

/-! ## What START latches -/

/-- A class code of the configuration. -/
def zoneClassOf (p : Params) (k : Nat) : MotionClass := (MotionClass.ofCode? (p.zoneClass k)).getD .run

/-- Each zone takes its configured class and landing permission; a larger map gains FREE entries (R17, R19). -/
def State.latchZones (s : State) : State :=
  let grown := s.zones ++ List.replicate (s.params.zoneCount - s.zones.length) ({} : Zone)
  let latch (p : Nat × Zone) : Zone :=
    { p.2 with zoneClass := zoneClassOf s.params p.1, landing := s.params.landing p.1 }
  { s with zones := (List.range grown.length |>.zip grown).map latch }

/-- The inputs are enabled: an input that is high has a rising stamp of this moment (R20, log 24). -/
def ZonePins.enabled (p : ZonePins) (now : Word) : ZonePins :=
  { p with entryStamp := if p.entry then some now else none, restStamp := if p.rest then some now else none }

/-- The field inputs are enabled, and the encoders count from here (R117, R179). -/
def State.enableInputs (s : State) : State :=
  { s with pins := { s.pins with zones := s.pins.zones.map (·.enabled s.clk.millis) },
           door := { s.door with nearCount := 0, farCount := 0, nearLog := [], riseCount := none } }

/-- The pool check drops every INCOMING record (R15). -/
def State.poolCheck (s : State) : State :=
  (s.store.pool.filter fun r => r.status == .incoming).foldl
    (fun t r => (t.delRecord r.id).report .recordDropped none (some r.id) (some 1)) s

/-- The base classes are computed again from the latched HEAVY_KG (R10, R15). -/
def State.rebase (s : State) : State :=
  { s with store := { s.store with pool := s.store.pool.map fun r =>
      { r with baseClass := baseClassOf r.hostClass r.weight s.params.heavyKg } } }

/-- A cycle that holds LIMBO with RESET_IN_PUSH puts the door zone in FAULT PUSH_FAULT (R138). -/
def State.resetInPush (s : State) : State :=
  if s.cycle.state = .limbo ∧ s.cycle.limbo = some .resetInPush ∧ s.params.hasFurnace then
    (s.faultZone s.params.doorZone .pushFault none).reportCharge .pushFault (some LimboReason.resetInPush.code)
  else s

/-- At a station without a furnace the door zone and cycle contexts do not exist (R115, R137, log 47). -/
def State.dropFurnace (s : State) : State :=
  if s.params.hasFurnace then s else { s with door := {}, cycle := {} }

/-- LIST_SUSPECT and HEARTH_UNVERIFIED at START (R113, R159). -/
def State.startReports (s : State) : State :=
  let t := if s.lists.suspect then s.report .listSuspect else s
  if t.hearth.integrity = .intact then t
  else t.report .hearthUnverified (value := some t.hearth.integrity.reportCode)

/-- The Pace Calculator at START: Davg and the stable flag under the latched NOMINAL_INTERVAL, Dreq, the line pace and
the reported pace, with no PACE_CHANGED (R163, R165). -/
def State.startPace (s : State) : State :=
  let t := { s with pace := s.pace.withRing s.pace.ring s.params.nominalInterval }.setDreq.setLinePace
  { t with pace := { t.pace with reported := t.pace.linePace } }

/-- START taken: the configuration is latched, the inputs are enabled, and the pool check is made (R15, R179). -/
def State.latch (s : State) : State :=
  let a := { s with hearth := s.hearth.recount }.latchZones.dropFurnace.enableInputs
  let b := a.poolCheck.rebase.resetInPush.startReports
  { b.startPace with phase := .reconciling s.params.filterMs }

/-! ## Reconciliation (R38, R39) -/

/-- The records a zone holds: its occupants and the EXPECTED one. -/
def Zone.held (z : Zone) : List Nat := z.occ ++ z.expected.toList

/-- Zones beyond the new exit zone are discarded with their records (R38). -/
def State.discardZones (s : State) : State :=
  let n := s.params.zoneCount
  let lost := (List.range s.zones.length).filter fun k => n ≤ k
  let t := lost.foldl (fun t k => t.loseSlabs k .slabLost (s.zone k).held) s
  { t with zones := t.zones.take n }

/-- A zone decided as a FREE one: UNKNOWN with its report when it shows presence (R38). -/
def State.reconcileFree (s : State) (k : Nat) : State :=
  if s.presence k then (s.makeUnknown k).report .unknownPresence (some k) else s.freeZone k

/-- The landing on an EXPECTING zone: the EXPECTED record is bound, LANDED is queued, routing is evaluated, and the
bound hit follows (R4, R31). -/
def State.land (s : State) (k id : Nat) : State :=
  let landed (r : Record) : Record :=
    { r with status := .live, landing := some (signedStamp s.now, s.params.stationNo) }
  let t := ((s.modRecord id landed).bind k id).report .landed (some k) (some id)
  (t.watchHit id (some k) 1).routeZone k

/-- One zone is reconciled from its retained entry and its presence (R38). An EXPECTING zone to which the latched
configuration gives no landing permission has no landing input to act on, so its record is deleted (log 56). Each zone is
decided from its own entry, so a fault frees no other zone here. -/
def State.reconcileZone (s : State) (k : Nat) : State :=
  let z := s.zone k
  match z.state with
  | .occupied =>
    if z.occ = [] then s.reconcileFree k
    else if s.presence k then s.restZone k
    else (s.loseSlabs k .slabLost z.occ).freeZone k
  | .expecting =>
    match z.expected with
    | some id =>
      if (s.zonePins k).landing ∧ z.landing then s.land k id
      else ((s.loseSlabs k .slabLost [id]).freeZone k).reconcileFree k
    | none => (s.freeZone k).reconcileFree k
  | .free => s.reconcileFree k
  | .unknown => if s.presence k then s else s.freeZone k
  | .reserved | .receiving | .sending =>
    if s.presence k then s.markFault k .restartInMotion none
    else (s.loseSlabs k .slabLost z.occ).freeZone k
  | .fault => s

/-- The zone has just become RESTART_IN_MOTION: it stood in motion before. -/
def ZoneState.inMotion : ZoneState → Bool
  | .reserved | .receiving | .sending => true
  | _ => false

/-- Two adjacent zones that both became RESTART_IN_MOTION name each other, from the upstream end (R38, log 25). -/
def State.pairRestarts (before s : State) : State :=
  let became (t : State) (k : Nat) : Bool :=
    (before.zone k).state.inMotion && (t.zone k).fault == some ⟨.restartInMotion, none⟩
  let name (t : State) (k j : Nat) : State :=
    t.modZone k fun z => { z with fault := some ⟨.restartInMotion, some j⟩ }
  (List.range s.exitZone).foldl
    (fun t k => if became t k && became t (k + 1) then name (name t k (k + 1)) (k + 1) k else t) s

/-- Every zone is reconciled, marked verified, and routed where it is OCCUPIED at rest (R38, R39). -/
def State.reconcile (s : State) : State :=
  let a := s.discardZones
  let b := State.pairRestarts a ((List.range a.zones.length).foldl State.reconcileZone a)
  let c := { b with zones := b.zones.map fun z => { z with verified := true } }
  (List.range c.zones.length).foldl (fun t k => if (t.zone k).atRest then t.routeZone k else t) c

/-- The substate at START: CHARGING in LIMBO, kept by a door zone in FAULT, derived otherwise (R135). -/
def State.startSubstate (s : State) : State :=
  if !s.params.hasFurnace then s
  else if s.cycle.state = .limbo then s.setSubstate .charging
  else if s.doorEntry.state = .fault then s
  else s.derive .start

/-- The Line Interface builds the peer table, enters LISTENING and opens its window (R55, R60). -/
def State.listen (s : State) : State :=
  let peers := s.params.others.map fun n => ({ station := n } : Peer)
  { s with line := { s.line with mode := .listening, peers := peers } }.openWindow

/-- The end of START: reconciliation, the causes of standing faults and of an active ESTOP, the door substate, the
pace, and LISTENING (R38, R39, R91, R135, R179). -/
def State.completeStart (s : State) : State :=
  let a := s.reconcile.startSubstate
  let b := if a.pins.estop then a.giveZoneCauses.addCause .estop else a.giveZoneCauses
  let c := { b.startPace with phase := .started }
  c.listen

end Sys2Proof.Machine
end

