-- ==== Sys2Proof/Machine/Sensors.lean ====
section
/-! DEFINITION. The accepted edges of the zones' entry sensors, rest sensors and landing inputs, and the pulses of the
door groups' encoders (Chapters 2, 4, 7). A pin's level follows its edges at every time; an edge is acted on once the
station is started and only on a zone of the map (R19, R38, R187, log 3). -/

namespace Sys2Proof.Machine

/-- What an accepted edge on a line of zone `k` does besides changing its level. -/
def State.edgeActs (s : State) (k : Nat) (run : State → State) : Result :=
  .next (if s.started && s.hasZone k then finish s (run s) else s)

/-! ## Entry sensor -/

/-- The door zone waits for the leading edge of the slab departing from the approach zone (R125). -/
def State.doorAwaitsEdge (s : State) : Bool :=
  (s.zone s.approach).departing && (s.doorEntry.state == .reserved || s.doorEntry.state == .receiving)

/-- The slab under a reverse correction, if one is under way (R129). -/
def Door.reversing? (d : Door) : Option Nat := if d.phase = .correcting .reverse then d.placing else none

/-- The incoming slab's leading edge reaches the boundary (R75). -/
def State.incomingLeadingEdge (s : State) : State :=
  { s.receive 0 with inc := { s.inc with state := .receiving } }

/-- A rising edge of zone `k`'s entry sensor (R25, R35, R75, R117, R125, R129). -/
def State.entryRises (s : State) (k : Nat) (stamp : Word) : State :=
  if s.isDoor k && s.doorAwaitsEdge then s.doorLeadingEdge (some stamp)
  else match (if s.isDoor k then s.door.reversing? else none) with
    | some id => s.positionFault id
    | none =>
      if (s.zone k).state = .reserved then
        if s.crossingIn k then s.incomingLeadingEdge
        else if s.senderMoves k then s.leadingEdge (k - 1)
        else s
      else s.freeShowsPresence k

/-- ENTRY_SENSOR_RISE (R25, R75, R125). -/
def execEntrySensorRise (zone : ZoneIx) (stamp : Word) (s : State) : Result :=
  let k := zone.val
  if (s.zonePins k).entry then .next s
  else
    (s.modPins k fun p => { p with entry := true, entryStamp := some stamp }).edgeActs k fun t =>
      t.entryRises k stamp

/-- Zone `k` receives a slab whose handle has not moved from the SENDING zone before it (R25). -/
def State.receivesFromSender (s : State) (k : Nat) : Bool :=
  (s.zone k).state == .receiving && !(s.zone k).handleMoved && k != 0 && (s.zone (k - 1)).state == .sending

/-- A falling edge of zone `k`'s entry sensor (R25, R35, R76, R125). -/
def State.entryFalls (s : State) (k : Nat) (stamp : Word) : State :=
  if s.crossingIn k then (if s.inc.state = .receiving ∧ (s.zone k).state = .receiving then s.arrive else s)
  else if s.receivesFromSender k then
    if s.isDoor k then s.doorTrailingEdge stamp else s.trailingEdge (k - 1)
  else s.unknownCleared k

/-- ENTRY_SENSOR_FALL (R25, R76, R120). -/
def execEntrySensorFall (zone : ZoneIx) (stamp : Word) (s : State) : Result :=
  let k := zone.val
  if (s.zonePins k).entry then
    (s.modPins k fun p => { p with entry := false }).edgeActs k fun t => t.entryFalls k stamp
  else .next s

/-! ## Rest sensor -/

/-- A slab reaches the rest sensor before it has cleared the entry sensor: both zones, or the entry zone of a crossing
alone, go to FAULT SLAB_OVERHANG (R25, R75). -/
def State.overhang (s : State) (k : Nat) : State :=
  if s.crossingIn k then
    (s.faultZone k .slabOverhang none).report .slabOverhang (some k) (some s.inc.slab)
  else if s.receivesFromSender k then
    (s.faultPair (k - 1) k .slabOverhang).report .slabOverhang (some k) (s.lastIn (k - 1))
  else s

/-- A rising edge of zone `k`'s rest sensor (R25, R27, R35, R75, R125). -/
def State.restRises (s : State) (k : Nat) : State :=
  if (s.zone k).state = .receiving then
    if s.isDoor k && !s.doorPassing then s
    else if (s.zone k).handleMoved then
      if s.runOn k then s.modZone k fun z => { z with restPassed := true } else s.comeToRest k
    else s.overhang k
  else s.freeShowsPresence k

/-- Zone `k`'s rest sensor high, with the stamp of its rise (R20). -/
def State.restPinUp (s : State) (k : Nat) (stamp : Word) : State :=
  s.modPins k fun p => { p with rest := true, restStamp := some stamp }

/-- REST_SENSOR_RISE (R25). -/
def execRestSensorRise (zone : ZoneIx) (stamp : Word) (s : State) : Result :=
  let k := zone.val
  if (s.zonePins k).rest then .next s else (s.restPinUp k stamp).edgeActs k fun t => t.restRises k

/-- A slab resting in zone `k` is watched by the rest sensor: no landing zone, and in the door zone a passing slab
(R35, R131). -/
def State.restWatched (s : State) (k : Nat) : Bool :=
  let z := s.zone k
  z.atRest && !z.landing && !z.occ.isEmpty && (!s.isDoor k || s.door.substate == .empty)

/-- A resting slab has moved with its drive off (R35). -/
def State.displaced (s : State) (k : Nat) : State :=
  (s.faultZone k .slabDisplaced none).report .slabDisplaced (some k) (s.zone k).occ.head?

/-- A falling edge of zone `k`'s rest sensor (R35, R74). -/
def State.restFalls (s : State) (k : Nat) : State :=
  if s.crossingOut k then { s with out := { s.out with exitClear := true } }
  else if s.restWatched k then s.displaced k
  else s.unknownCleared k

/-- REST_SENSOR_FALL (R35, R74). -/
def execRestSensorFall (zone : ZoneIx) (s : State) : Result :=
  let k := zone.val
  if (s.zonePins k).rest then
    (s.modPins k fun p => { p with rest := false }).edgeActs k fun t => t.restFalls k
  else .next s

/-! ## Landing input -/

/-- The zones of a landing conflict on zone `k` and the slab of the move it ends (R32, R82). -/
def State.conflictZones (s : State) (k : Nat) : State × Option Nat :=
  let alone := s.faultZone k .landingConflict none
  if s.crossingIn k then (alone, some s.inc.slab)
  else match (s.zone k).state with
    | .sending =>
      if s.crossingOut k then (alone, some s.out.slab)
      else (s.faultPair k (k + 1) .landingConflict, s.lastIn k)
    | .reserved =>
      if k != 0 && (s.zone (k - 1)).departing then (alone.restZone (k - 1), s.lastIn (k - 1))
      else if k != 0 && s.runOn (k - 1) then
        (if (s.zone (k - 1)).restPassed then alone.comeToRest (k - 1) else alone, s.lastIn (k - 1))
      else (alone, none)
    | _ =>
      if s.receivesFromSender k then (s.faultPair (k - 1) k .landingConflict, s.lastIn (k - 1)) else (alone, none)

/-- A landing conflict on zone `k`: FAULT, the own halt cause, and LANDING_CONFLICT (R32). -/
def State.landingConflict (s : State) (k : Nat) : State :=
  let out := s.conflictZones k
  (out.1.giveCauseOf .landingConflict).report .landingConflict (some k) out.2

/-- A rising edge of landing zone `k`'s landing input (R31). -/
def State.landingRises (s : State) (k : Nat) : State :=
  let z := s.zone k
  if z.landing then
    match z.state with
    | .expecting =>
      match z.expected with
      | some id => s.land k id
      | none => s
    | .free => (s.makeUnknown k).report .unknownLanding (some k)
    | .reserved | .sending => s.landingConflict k
    | .receiving => if z.handleMoved then s else s.landingConflict k
    | .occupied | .unknown | .fault => s
  else s

/-- Zone `k`'s landing input high (R20). -/
def State.landingPinUp (s : State) (k : Nat) : State := s.modPins k fun p => { p with landing := true }

/-- LANDING_INPUT_RISE (R31). -/
def execLandingInputRise (zone : ZoneIx) (s : State) : Result :=
  let k := zone.val
  if (s.zonePins k).landing then .next s else (s.landingPinUp k).edgeActs k fun t => t.landingRises k

/-- Lift-off of the slab resting on zone `k` (R33). -/
def State.liftOff (s : State) (k : Nat) : State :=
  match (s.zone k).occ.head? with
  | some id => ((s.delRecord id).freeZone k).report .lifted (some k) (some id)
  | none => s

/-- A slab is lifted from zone `k` as it runs in: FAULT, the own halt cause, and LIFTED_IN_MOTION (R33). -/
def State.liftedInMotion (s : State) (k : Nat) : State :=
  ((s.faultZone k .liftedInMotion none).giveCauseOf .liftedInMotion).report .liftedInMotion (some k) (s.lastIn k)

/-- A falling edge of landing zone `k`'s landing input (R33). -/
def State.landingFalls (s : State) (k : Nat) : State :=
  let z := s.zone k
  if z.landing then
    match z.state with
    | .occupied => if z.departing then s else s.liftOff k
    | .unknown => (s.freeZone k).report .lifted (some k)
    | .receiving => if z.handleMoved && !s.runOn k then s.liftedInMotion k else s
    | .free | .expecting | .reserved | .sending | .fault => s
  else s

/-- LANDING_INPUT_FALL (R33). -/
def execLandingInputFall (zone : ZoneIx) (s : State) : Result :=
  let k := zone.val
  if (s.zonePins k).landing then
    (s.modPins k fun p => { p with landing := false }).edgeActs k fun t => t.landingFalls k
  else .next s

/-! ## Encoders -/

/-- The pulse is counted by the encoder and by the tracks that follow it; the group's stall timer and, when the slab
being placed is tracked by this encoder, the stillness restart (R117, R119, R128). -/
def State.countPulse (s : State) (g : Group) (dir : Direction) : State :=
  let d := s.door.countPulse g dir s.clk.millis s.params.filterMs
  let follows := match s.door.placed? with
    | some t => t.encoder == g
    | none => false
  let restart (run : Bool) (t : Timer) : Timer := if run && t.isSome then some 500 else t
  { s with door := { d with tracks := d.tracks.map (Track.pulse s.params g dir),
                            stallNear := restart (g == .near) d.stallNear,
                            stallFar := restart (g == .far) d.stallFar,
                            still := restart follows d.still } }

/-- How far a track has moved from the position measured at the end of its placement (R131). -/
def trackMovement (p : Params) (t : Track) : Int :=
  match t.placedAt with
  | some pos => (trackPosition p t : Int) - (pos : Nat)
  | none => 0

/-- The track of a placed slab that has moved more than POS_TOL with the groups off, in PAIR_WAIT or POSITIONED
(R131). -/
def State.movedTrack (s : State) : Option Track :=
  if (s.door.substate = .pairWait ∨ s.door.substate = .positioned) ∧ s.doorEntry.state ≠ .fault ∧
      s.groupOn .near = false ∧ s.groupOn .far = false then
    s.door.tracks.find? fun t => decide (s.params.posTol < (trackMovement s.params t).natAbs)
  else none

/-- The door zone goes to FAULT SLAB_DISPLACED with the movement as value (R131, log 31). -/
def State.testMoved (s : State) : State :=
  match s.movedTrack with
  | some t =>
    (s.faultZone s.params.doorZone .slabDisplaced none).report .slabDisplaced (some s.params.doorZone) (some t.id)
      (some (trackMovement s.params t))
  | none => s

/-- ENCODER_PULSE: counted from START onward at a station with a furnace; the stopping tests and the watch over placed
slabs follow once the station is started (R117, R128, R129, R131). -/
def execEncoderPulse (group : Group) (dir : Direction) (s : State) : Result :=
  if s.params.hasFurnace ∧ s.phase ≠ .unstarted then
    let t := s.countPulse group dir
    .next (if t.started then finish t t.testStop.testMoved else t)
  else .next s

end Sys2Proof.Machine
end

