-- ==== Sys2Proof/Machine/Slabs.lean ====
section
/-! DEFINITION. EXPECT_LANDING, CANCEL_EXPECT, IDENTIFY, HOLD, RELEASE and CLEAR_FAULT (Chapters 1, 2, 4, 8). -/

namespace Sys2Proof.Machine

/-- The tests of a creation after the range of its fields: the zone's condition, then R3 (R3). -/
def State.creationTests (s : State) (zoneFails : Bool) (id : Nat) : List (Bool × Reason) :=
  [(zoneFails, .state), (s.poolRefusal id = some .duplicate, .duplicate), (s.poolRefusal id = some .full, .full)]

/-- EXPECT_LANDING: MODE, RANGE, STATE, DUPLICATE, FULL; then an EXPECTED record and an EXPECTING zone (R4, R30). -/
def execExpectLanding (zone : Byte) (slab : SlabBlock) (s : State) : Result :=
  .next (hostCommand 26 s fun t => whenStarted t fun t =>
    let k := zone.toNat
    if !t.hasZone k then (t, .refuse .range)
    else match slabRecord? slab t.now t.params.heavyKg none .expected with
      | none => (t, .refuse .range)
      | some r =>
        let fails := !(t.zone k).landing || (t.zone k).state != .free
        tested t (t.creationTests fails r.id) fun t =>
          ((t.addRecord r).modZone k fun z => { z with state := .expecting, expected := some r.id }, .done))

/-- CANCEL_EXPECT: the EXPECTED record is deleted and the zone is FREE (R4, R30). -/
def execCancelExpect (zone : Byte) (s : State) : Result :=
  .next (hostCommand 4 s fun t => whenStarted t fun t =>
    let k := zone.toNat
    if !t.hasZone k then (t, .refuse .range)
    else if (t.zone k).state = .expecting then
      let u := match (t.zone k).expected with
        | some id => t.delRecord id
        | none => t
      (u.freeZone k, .done)
    else (t, .refuse .state))

/-- The request IDENTIFY: MODE, RANGE, STATE, DUPLICATE, FULL, or the LIVE record on its zone (R5, R34, R135). -/
def State.takeIdentify (zone : Byte) (slab : SlabBlock) (t : State) : State × Response :=
  whenStarted t fun t =>
    let k := zone.toNat
    if !t.hasZone k then (t, .refuse .range)
    else match slabRecord? slab t.now t.params.heavyKg (some (signedStamp t.now, t.params.stationNo)) .live with
      | none => (t, .refuse .range)
      | some r =>
        tested t (t.creationTests ((t.zone k).state != .unknown) r.id) fun t =>
          let u := (((t.addRecord r).bind k r.id).watchHit r.id (some k) 1).routeZone k
          (if u.isDoor k then u.derive .identify else u, .done)

/-- IDENTIFY: a LIVE record for the slab on an UNKNOWN zone, which is OCCUPIED at rest and routed; the door substate is
derived for the door zone (R5, R34, R135). -/
def execIdentify (zone : Byte) (slab : SlabBlock) (s : State) : Result :=
  .next (hostCommand 26 s (State.takeIdentify zone slab))

/-- The record's slab is in a handover (R9). -/
def State.inHandover (s : State) (r : Record) : Bool :=
  r.status == .incoming || (s.out.state == .runningOut && s.out.slab == r.id)

/-- The request HOLD: UNKNOWN_ID, STATE, or HOST is added (R9). -/
def State.takeHold (id : Word) (t : State) : State × Response :=
  match t.record? id.toNat with
  | none => (t, .refuse .unknownId)
  | some r => if t.inHandover r then (t, .refuse .state) else (t.setHold r.id .host true, .done)

/-- HOLD adds HOST to a record of the pool that is not in a handover (R9). -/
def execHold (id : Word) (s : State) : Result := .next (hostCommand 7 s (State.takeHold id))

/-- The request RELEASE: UNKNOWN_ID, STATE, or HOST and LENGTH_MISMATCH are removed (R9). -/
def State.takeRelease (id : Word) (t : State) : State × Response :=
  match t.record? id.toNat with
  | none => (t, .refuse .unknownId)
  | some r =>
    if t.inHandover r then (t, .refuse .state)
    else ((t.setHold r.id .host false).setHold r.id .lengthMismatch false, .done)

/-- RELEASE removes HOST and LENGTH_MISMATCH from a record of the pool that is not in a handover (R9). -/
def execRelease (id : Word) (s : State) : Result := .next (hostCommand 7 s (State.takeRelease id))

/-! ## CLEAR_FAULT (R37, R83, R149) -/

/-- The group cleared together, upstream zone first: the zone and its partner, as far as they are in FAULT (log 27). -/
def State.faultGroup (s : State) (k : Nat) : List Nat :=
  match (s.zone k).fault.bind (·.partner) with
  | some j => if (s.zone j).state = .fault ∧ j ≠ k then (if j < k then [j, k] else [k, j]) else [k]
  | none => [k]

/-- The zone's presence is the straddling slab of an occupied partner zone immediately upstream (R37). -/
def State.straddledFrom (s : State) (group : List Nat) (k : Nat) : Bool :=
  k != 0 && group.contains (k - 1) && !(s.zone (k - 1)).occ.isEmpty && s.presence (k - 1)

/-- A condition that the kind's own chapter names for the door zone persists (R149). -/
def State.kindPersists (s : State) (k : Nat) : Bool :=
  match (s.zone k).fault with
  | some ⟨.doorFault, _⟩ => !s.pins.doorShut
  | some ⟨.barFault, _⟩ => !s.pins.barHome
  | some ⟨.pushFault, _⟩ => s.cycle.state == .limbo
  | _ => false

/-- CLEAR_FAULT is refused STATE while this holds of a zone of the group (R37). -/
def State.clearRefused (s : State) (group : List Nat) (k : Nat) : Bool :=
  let z := s.zone k
  (z.landing && (s.zonePins k).landing && z.occ.isEmpty) ||
  (s.presence k && z.occ.isEmpty && !s.straddledFrom group k) || s.kindPersists k

/-- One zone of the group is settled by its occupants and its presence (R37). -/
def State.settleFault (s : State) (k : Nat) : State :=
  let z := s.zone k
  if z.occ = [] then s.freeZone k
  else if s.presence k then (s.restZone k).routeZone k
  else
    let kind := if (z.fault.map fun f => f.kind) = some FaultKind.liftedInMotion then ReportKind.lifted else .slabLost
    (s.loseSlabs k kind z.occ).freeZone k

/-- FAULT_CLEARED with the zone and the cleared kind, by its place in R18 (log 44). -/
def State.reportCleared (s : State) (k : Nat) (kind : Option FaultKind) : State :=
  s.report .faultCleared (some k) none (kind.map fun x => (x.ctorIdx : Nat))

/-- The door zone after it has been settled: EMPTY after BAR_FAULT, derived otherwise (R135, R149). -/
def State.doorSettled (s : State) (kind : Option FaultKind) : State :=
  match kind with
  | some .barFault =>
    { s with door := { s.door with substate := .empty, offCentre := false, pairTimer := none } }
  | some x => s.derive (.clear x)
  | none => s

/-- A group taken by CLEAR_FAULT: settled upstream first, reported, the outgoing context ended with its exit zone, the
door substate derived, and the causes withdrawn (R36, R37, R83, R149). -/
def State.clearGroup (s : State) (group : List Nat) : State :=
  let kindOf (k : Nat) : Option FaultKind := (s.zone k).fault.map fun f => f.kind
  let a := group.foldl State.settleFault s
  let b := group.foldl (fun t k => t.reportCleared k (kindOf k)) a
  let c := if group.contains b.exitZone ∧ b.out.state = .runningOut then { b with out := b.out.toNone } else b
  let d := if c.params.hasFurnace ∧ group.contains c.params.doorZone then c.doorSettled (kindOf c.params.doorZone)
    else c
  d.withdrawZoneCauses

/-- The request CLEAR_FAULT: MODE, RANGE, STATE, or the zone is cleared with its partner (R37). -/
def State.takeClear (zone : Byte) (t : State) : State × Response :=
  whenStarted t fun t =>
    let k := zone.toNat
    let group := t.faultGroup k
    tested t
      [(!t.hasZone k, .range), ((t.zone k).state != .fault, .state), (group.any (t.clearRefused group), .state)]
      fun t => (t.clearGroup group, .done)

/-- CLEAR_FAULT: MODE, RANGE, STATE; then the zone is cleared with its partner (R37). -/
def execClearFault (zone : Byte) (s : State) : Result := .next (hostCommand 4 s (State.takeClear zone))

end Sys2Proof.Machine
end

