-- ==== Sys2Proof/Machine/Timers.lean ====
section
/-! DEFINITION. The seconds tick and the expiries of the block's own timers: creep, moves, handovers, offers, stall, pair
wait, stillness, the cycle, the qualification window, declarations, silence and the peers' ages. An expiry acts only
while its timer runs with no time left and its owner's state gives it a meaning: an event taken first that restarts or
stops the timer leaves the expiry nothing to act on (log 2). -/

namespace Sys2Proof.Machine

/-! ## Seconds (R11, R171) -/

/-- The class a record is demoted to at this check, if it is (R11). -/
def State.demotion (s : State) (r : Record) : Option ChargeClass :=
  let age := s.classAge r
  if r.status = .incoming then none
  else match r.cls with
    | .hot => if 0 < s.params.hotLimit ∧ (s.params.hotLimit : Int) < age then some .warm else none
    | .warm => if 0 < s.params.warmLimit ∧ (s.params.warmLimit : Int) < age then some .cold else none
    | .cold => none

/-- One record is checked: a demotion sets its class and stamp and queues CLASS_DEMOTED (R11). -/
def State.demoteOne (s : State) (r : Record) : State :=
  match s.demotion r with
  | none => s
  | some c =>
    (s.modRecord r.id fun x => { x with cls := c, classStamp := signedStamp s.now }).report .classDemoted
      (s.zoneOf r) (some r.id) (some (c.code : Nat))

/-- Every record is checked (R11). -/
def State.demoteAll (s : State) : State := s.store.pool.foldl State.demoteOne s

/-- SECONDS_TICK: the counter advances by one; while started the records are checked and Dreq is recomputed
(R11, R171). -/
def execSecondsTick (s : State) : Result :=
  let t := { s with clk := { s.clk with seconds := s.clk.seconds + 1 } }
  .next (if t.started then finish t t.demoteAll.recomputeDreq else t)

/-- RESUME_CREEP_END: the resume creep period ends (R22). -/
def execResumeCreepEnd (s : State) : Result := s.act fun t => if t.creep = some 0 then { t with creep := none } else t

/-! ## Moves (R26) -/

/-- The zone's motion timer has expired: no time is left, and the move it serves is not HELD (R26). -/
def State.motionExpired (s : State) (k : Nat) : Bool := (s.zone k).timer == some 0 && s.serveClass k != .held

/-- The zone's motion timer has expired in an internal move (R26). -/
def State.internalExpired (s : State) (k : Nat) : Bool := s.motionExpired k && !s.crossingOut k && !s.crossingIn k

/-- The receiving zone of the internal move whose timer expired in zone `k` (R26). -/
def State.receivingOf (s : State) (k : Nat) : Nat :=
  match (s.zone k).state with
  | .sending => k + 1
  | .occupied => k + 1
  | _ => k

/-- Whether the sending zone is still part of the move into zone `j`: departing or SENDING (R26). -/
def State.senderPart (s : State) (j : Nat) : Bool :=
  j != 0 && !(s.zone j).handleMoved && ((s.zone (j - 1)).departing || (s.zone (j - 1)).state == .sending)

/-- The slab of the move into zone `j`: the occupant once its handle has moved, before that the slab whose move has
claimed the zone, also where that slab is gone (R26, log 67). -/
def State.movingSlab (s : State) (j : Nat) : Option Nat :=
  if (s.zone j).handleMoved then s.lastIn j else (s.zone j).claim

/-- A run-on reservation that expires faults the reserved zone alone; a slab whose rest edge was passed over rests in
the zone it runs out of (R26, log 33). -/
def State.runOnTimeout (s : State) (j : Nat) : State :=
  let slab := s.lastIn (j - 1)
  let passed := (s.zone (j - 1)).restPassed
  let t := s.faultZone j .moveTimeout none
  (if passed then t.comeToRest (j - 1) else t).report .moveTimeout (some j) slab

/-- An internal move has failed to make progress: its zones go to FAULT MOVE_TIMEOUT (R26). -/
def State.moveTimeout (s : State) (k : Nat) : State :=
  let j := s.receivingOf k
  let slab := s.movingSlab j
  if (s.zone j).state = .reserved ∧ s.runOn (j - 1) ∧ j ≠ 0 then s.runOnTimeout j
  else if s.senderPart j then (s.faultPair (j - 1) j .moveTimeout).report .moveTimeout (some j) slab
  else (s.faultZone j .moveTimeout none).report .moveTimeout (some j) slab

/-- The expiry of zone `k`'s motion timer in an internal move, if it has run out (R26). -/
def State.moveRunsOut (k : Nat) (t : State) : State :=
  if t.hasZone k && t.internalExpired k then t.moveTimeout k else t

/-- MOVE_TIMEOUT: a zone's motion timer expires in an internal move (R26). -/
def execMoveTimeout (zone : ZoneIx) (s : State) : Result := s.act (State.moveRunsOut zone.val)

/-! ## Handovers (R69, R80, R81) -/

/-- HANDOVER_BROKEN: the exit zone faults alone, the context stays RUNNING_OUT (R80). -/
def execHandoverBroken (s : State) : Result :=
  s.act fun t =>
    let k := t.exitZone
    if t.crossingOut k && t.motionExpired k then
      (t.faultZone k .handoverBroken none).report .handoverBroken (some k) (some t.out.slab)
    else t

/-- HANDOVER_TIMEOUT: the entry zone faults alone, the INCOMING record is deleted, the context is NONE (R81). -/
def execHandoverTimeout (s : State) : Result :=
  s.act fun t =>
    if t.inc.state ≠ .idle ∧ t.motionExpired 0 then
      (t.faultZone 0 .handoverTimeout none).report .handoverTimeout (some 0) (some t.inc.slab)
    else t

/-- OFFER_UNANSWERED: a WITHDRAW is placed, the context is NONE with the offer bar, and the report is queued (R69). -/
def execOfferUnanswered (s : State) : Result :=
  s.act fun t =>
    if t.out.state = .offered ∧ t.out.answer = some 0 then
      let u := t.place .withdraw (.withdraw t.out.tag t.out.slabId)
      { u with out := { u.out.toNone with offerBar := true } }.report .offerUnanswered (some t.exitZone)
        (some t.out.slab)
    else t

/-! ## The door zone (R119, R128, R132) -/

/-- A group's stall timer. -/
def Door.stall (d : Door) : Group → Timer
  | .near => d.stallNear
  | .far => d.stallFar

/-- The door zone's stall timer with a group's replaced. -/
def Door.setStall (d : Door) (g : Group) (t : Timer) : Door :=
  match g with
  | .near => { d with stallNear := t }
  | .far => { d with stallFar := t }

/-- Value of DRIVE_STALL: 1 for near, 2 for far (R119). -/
def groupNumber : Group → Nat
  | .near => 1
  | .far => 2

/-- The slab enters the door zone: the approach zone is departing or SENDING for it (R119). -/
def State.entering (s : State) : Bool :=
  (s.zone s.approach).departing || (s.zone s.approach).state == .sending

/-- The slab the door groups move: the one being placed, the one entering, or the last one in (R119). -/
def State.movedSlab (s : State) : Option Nat :=
  match s.door.placing with
  | some id => some id
  | none => if s.entering then s.lastIn s.approach else s.lastIn s.params.doorZone

/-- A door group has been commanded for 500 ms without turning (R119). -/
def State.driveStall (s : State) (g : Group) : State :=
  let dz := s.params.doorZone
  let slab := s.movedSlab
  let t := if s.entering then s.faultPair s.approach dz .driveStall else s.faultZone dz .driveStall none
  t.report .driveStall (some dz) slab (some (groupNumber g : Nat))

/-- DRIVE_STALL: the stall timer of a group expires (R119). -/
def execDriveStall (group : Group) (s : State) : Result :=
  s.act fun t => if t.params.hasFurnace && t.door.stall group == some 0 then t.driveStall group else t

/-- The expiry of the pair wait timer, if it has run out: cause 3; with the door zone in FAULT the timer stays at 0 for
the derivation at CLEAR_FAULT (R132, R135, log 32). -/
def State.pairRunsOut (t : State) : State :=
  if t.pairTimerRuns ∧ t.door.pairTimer = some 0 ∧ t.doorEntry.state ≠ .fault then t.abandonPair 3 else t

/-- PAIR_WAIT_EXPIRY: the pair is abandoned with cause 3, unless the door zone is in FAULT (R132, R135, log 32). -/
def execPairWaitExpiry (s : State) : Result := s.act State.pairRunsOut

/-- SLAB_STILL: 500 ms without pulses with the groups off; the error is measured and the placement ends, is corrected,
or faults (R128). -/
def execSlabStill (s : State) : Result :=
  s.act fun t =>
    if t.params.hasFurnace ∧ t.door.phase = .stopping ∧ t.door.suspended = false ∧ t.door.still = some 0 then
      match t.door.placed? with
      | some tr => t.measureError tr
      | none => t
    else t

/-! ## The cycle (R143, R145, R147, R148) -/

/-- The cycle timer has expired in a state: no time is left, and the station is in RUN (R139). -/
def State.cycleExpired (s : State) (x : CycleState) : Bool :=
  s.params.hasFurnace && s.cycle.state == x && s.cycle.timer == some 0 && s.line.mode == .run

/-- The expiry of DOOR_TIMEOUT in DOOR_OPENING, if it has run out (R143). -/
def State.openingRunsOut (t : State) : State := if t.cycleExpired .doorOpening then t.openingFault else t

/-- DOOR_TIMEOUT_OPENING: door fault at opening (R143). -/
def execDoorTimeoutOpening (s : State) : Result := s.act State.openingRunsOut

/-- PUSH_TIMEOUT: push fault with the reason PUSH_TIMEOUT (R145). -/
def execPushTimeout (s : State) : Result :=
  s.act fun t => if t.cycleExpired .pushing then t.enterLimbo .pushTimeout else t

/-- BAR_FAULT: the retract timer expires (R147). -/
def execBarFault (s : State) : Result :=
  s.act fun t => if t.cycleExpired .retracting then t.retractFault else t

/-- DOOR_TIMEOUT_CLOSING: door fault at closing (R148). -/
def execDoorTimeoutClosing (s : State) : Result :=
  s.act fun t => if t.cycleExpired .doorClosing then t.closingFault else t

/-! ## The line (R52, R55, R56, R59, R63) -/

/-- LISTEN_HALF_END: the count half begins with its tally at 0 (R55). -/
def execListenHalfEnd (s : State) : Result :=
  s.act fun t =>
    if t.line.mode = .listening ∧ t.line.stage = .listen ∧ t.line.windowTimer = some 0 then
      { t with line := { t.line with stage := .count, tally := 0, windowTimer := some 1000 } }
    else t

/-- The end of the count half, if it has run out: the window has passed and declaration starts, or LINE_NOISY is queued
and a new window opens (R56). -/
def State.countRunsOut (t : State) : State :=
  if t.line.mode = .listening ∧ t.line.stage = .count ∧ t.line.windowTimer = some 0 then
    if t.line.tally ≤ t.params.errThreshold then
      { t with line := { t.line with stage := .passed, windowTimer := none }.startDeclaring }
    else (t.report .lineNoisy (value := some t.line.tally)).openWindow
  else t

/-- COUNT_HALF_END: the window has passed, or a new one opens (R56). -/
def execCountHalfEnd (s : State) : Result := s.act State.countRunsOut

/-- DECLARATION_PERIOD: the 250 ms timer marks the DECLARE slot pending (R52). -/
def execDeclarationPeriod (s : State) : Result :=
  s.act fun t =>
    if t.line.declaring ∧ t.line.mayTransmit ∧ t.line.period = some 0 then { t with line := t.line.mark } else t

/-- DECLARE_CHANGE_HOLDOFF: 20 ms have passed since the last marking; a waiting change marks the slot in the same
step (R52). -/
def execDeclareChangeHoldoff (s : State) : Result :=
  s.act fun t => if t.line.holdoff = some 0 then { t with line := { t.line with holdoff := none } } else t

/-- LINE_SILENT: the silence timer expires, LINE_SILENT is queued and the station enters ISOLATED (R59). -/
def execLineSilent (s : State) : Result :=
  s.act fun t =>
    if (t.line.mode = .run ∨ t.line.mode = .halted) ∧ t.line.silence = some 0 then
      (t.report .lineSilent).isolate .silence
    else t

/-- The entry has gone a second without a declaration (R63). -/
def Peer.aged (p : Peer) : Bool :=
  (p.state == .heard || p.state == .qualified) && decide (1000 ≤ p.age.getD 0)

/-- PEER_STALE: a HEARD or QUALIFIED entry whose age has reached 1,000 ms goes STALE; the line pace follows the loss of a QUALIFIED one (R63, R172). -/
def execPeerStale (station : Byte) (s : State) : Result :=
  s.act fun t =>
    let n := station.toNat
    match t.line.peer? n with
    | none => t
    | some p =>
      if p.aged then
        let u := (t.modPeer n Peer.goStale).report .peerStale (value := some n)
        if p.state = .qualified then u.recomputeLinePace else u
      else t

end Sys2Proof.Machine
end

