-- ==== Sys2Proof/Machine/ResetOps.lean ====
section
/-! DEFINITION. Warm reset (R180): what each block keeps, and what the reset leaves of the operation it strikes (R113,
R146, R159). -/

namespace Sys2Proof.Machine

/-! ## What a warm reset leaves of each block -/

/-- The cycle after a warm reset (R138). -/
def Cycle.afterReset (c : Cycle) : Cycle :=
  let limbo (r : Option LimboReason) : Cycle :=
    { state := .limbo, charge := c.charge, offCentre := c.offCentre, pitch := c.pitch, weightSum := c.weightSum,
      stroke := c.stroke, limbo := r }
  if c.committing then {}
  else match c.state with
    | .pushing => limbo (some .resetInPush)
    | .limbo => limbo c.limbo
    | _ => {}

/-- The door zone context after a warm reset (R115): retained, with its timers as the table gives them. -/
def Door.afterReset (d : Door) : Door :=
  { substate := d.substate, tracks := d.tracks, givenRoles := d.givenRoles, offCentre := d.offCentre, pairTimer := d.pairTimer,
    lastError := d.lastError }

/-- A zone after a warm reset (R19): retained, its timer stopped, unverified. -/
def Zone.afterReset (z : Zone) : Zone :=
  { z with timer := none, verified := false, runOnGranted := false, restPassed := false, claim := none,
           heldReported := false }

/-- The Pace Calculator after a warm reset (R165). -/
def Pace.afterReset (p : Pace) : Pace :=
  { p.withRing p.ring Params.defaults.nominalInterval with last := none }

/-- A warm reset: every block as its chapter gives it (R15, R19, R54, R60, R66, R67, R89, R91, R103, R115, R138, R154,
R165, R176, R178, R180, R183, R185). The clock runs on and the pins are as the outside drives them. -/
def State.warmReset (s : State) : State where
  clk := s.clk
  resetLow := s.resetLow
  pins := s.pins
  phase := .unstarted
  lastReset := .warm
  params := Params.defaults
  store := { pool := s.store.pool }
  zones := s.zones.map Zone.afterReset
  creep := none
  line := {}
  out := {}
  inc := {}
  halt := {}
  lists := { s.lists with deferred := false }
  door := s.door.afterReset
  cycle := s.cycle.afterReset
  hearth := s.hearth
  pace := s.pace.afterReset
  port := {}
  freeIx := s.freeIx
  pending := s.pending

/-! ## The operation a warm reset strikes -/

/-- An update of the hearth record has been struck (R159). -/
def State.hearthStruck (s : State) : State := { s with hearth := { s.hearth with integrity := .suspect } }

/-- An update of a bank has been struck (R113). -/
def State.listStruck (s : State) : State := { s with lists := { s.lists with suspect := true } }

/-- The positions of an update as struck: the totals have followed them or not (R159). -/
def Hearth.struckFrom (after before : Hearth) (totals : Bool) : Hearth :=
  if totals then after else { after with count := before.count, fill := before.fill, load := before.load }

/-- The hearth record of an update struck part way. -/
def State.hearthPart (s : State) (after : Hearth) (totals : Bool) : State :=
  { s with hearth := after.struckFrom s.hearth totals }.hearthStruck

/-- A request can be in progress: the port takes one (R176). -/
def State.requestPossible (s : State) : Bool := s.port.state == .idle && !s.resetLow

/-- A commit can be in progress: of a charge that PUSH_DONE commits in RUN, or of one in LIMBO that CONFIRM_CHARGED
commits (R144, R146, R150). -/
def State.commitPossible (s : State) : Bool :=
  s.started &&
  ((s.cycle.state == .pushing && s.line.mode == .run) || (s.cycle.state == .limbo && s.requestPossible))

/-- The state in which a commit begins: after CONFIRM_CHARGED the door zone has left FAULT and the LIMBO reason is absent
(R150). -/
def State.commitBase (s : State) : State :=
  if s.cycle.state = .limbo then
    let t := s.answerLimbo
    t.setCycle { t.cycle with limbo := none, committing := true }
  else s.setCycle { s.cycle with committing := true }

/-- A commit struck after step 1, before or in step 2 (R146, R159). -/
def State.commitPart (s : State) (totals : Bool) (removed : Nat) (bar : Bool) : State :=
  let b := s.commitBase
  let t := b.commitHearth b.chargePosition
  let u := { t with hearth := t.hearth.struckFrom b.hearth totals }.hearthStruck
  let v := (b.cycle.charge.take removed).foldl (fun x id => x.removeCharged id) u
  if bar then v.barOut else v

/-- An entry joins a struck bank unless its ID stands there. -/
def keepEntry (bank : List ListEntry) (e : ListEntry) : List ListEntry :=
  if bankHolds bank e.id then bank else bank ++ [e]

/-- A bank that R113 leaves in an unknown stage between the old banks and the new: entries of the old banks, at most 24
with no ID repeated, otherwise free (log 10). -/
def struckEntries (old : List ListEntry) (places : List Nat) : List ListEntry :=
  ((places.filterMap fun i => old[i]?).foldl keepEntry []).take 24

/-- The banks as a warm reset that strikes a switch application leaves them (R113). -/
def State.banksStruck (s : State) : State :=
  let old := s.lists.active ++ s.lists.pendingBank
  let t := { s with lists := { s.lists with active := struckEntries old (Config.struckBank s.freeIx) } }.nextFree
  { t with lists := { t.lists with pendingBank := struckEntries old (Config.struckBank t.freeIx) } }.nextFree.listStruck

/-- The own effect of a request, none where none could be in progress. -/
def State.requested (s : State) (run : State → State × Response) : Option State :=
  if s.requestPossible then some (run s).1 else none

/-- The own effect of an event that acts on a started station. -/
def State.happened (s : State) (possible : Bool) (run : State → State) : Option State :=
  if s.started && possible then some (run s) else none

/-- What the command of a cause does by itself, before what follows from it in its step; none where it could not be
taken. A LIST_SWITCH stands as a deferred one until it is applied (R108, R109). -/
def State.ownEffect (s : State) : SwitchCause → Option State
  | .request =>
    if s.lists.deferred then none
    else s.requested fun t => ({ t with lists := { t.lists with deferred := true } }, { status := .accepted })
  | .returned => s.requested State.takeOnTable
  | .openingFault => s.happened true State.openingRunsOut
  | .permitLost => s.happened (s.params.hasFurnace && s.pins.furnPermit) fun t =>
      { t with pins := { t.pins with furnPermit := false } }.permitLost
  | .pairExpired => s.happened true State.pairRunsOut
  | .slabRests zone stamp => s.happened (s.hasZone zone.val && !(s.zonePins zone.val).rest) fun t =>
      (t.restPinUp zone.val stamp).restRises zone.val
  | .slabLands zone => s.happened (s.hasZone zone.val && !(s.zonePins zone.val).landing) fun t =>
      (t.landingPinUp zone.val).landingRises zone.val
  | .moveExpired zone => s.happened true (State.moveRunsOut zone.val)
  | .identified zone slab => s.requested (State.takeIdentify zone slab)
  | .faultCleared zone => s.requested (State.takeClear zone)
  | .held id => s.requested (State.takeHold id)
  | .released id => s.requested (State.takeRelease id)
  | .appended bank entries => s.requested (State.takeAppend bank entries)
  | .headSkipped => s.requested State.takeSkip
  | .headInserted entry => s.requested (State.takeInsert entry)
  | .causeLifted => s.requested State.takeResume
  | .holderReleased station => s.requested (State.takeReleaseHolder station)
  | .estopLifted => s.happened s.pins.estop fun t =>
      { t with pins := { t.pins with estop := false } }.removeCause .estop
  | .resumeHeard header => s.happened true (State.hearResume header)
  | .declareHeard header decl => s.happened true (State.hearDeclare header decl)
  | .countEnded => s.happened true State.countRunsOut
  | .reconciled => if s.phase = .reconciling 0 then some s.completeStart else none

/-- The state in which the first switch application of the rounds of a step begins, if there is one: before the
approach zone is evaluated, or after (R109, R123, log 7). -/
def switchPoint : Nat → State → State → Option State
  | 0, _, _ => none
  | n + 1, old, s =>
    let a := s.runLimbo.runWithdraw
    if a.switchDue then some a
    else
      let b := runAdmission old (headHanded old a)
      if b.switchDue then some b else switchPoint n s (round old s)

/-- The state in which the switch application of a cause's step begins, none where its step applies none: at once for a
LIST_SWITCH that nothing defers, in the rounds of a started station otherwise (R108, R109). -/
def State.beforeSwitch (s : State) (cause : SwitchCause) : Option State :=
  match s.ownEffect cause with
  | none => none
  | some v =>
    if cause = .request ∧ v.switchDue then some v
    else if v.started then switchPoint 6 s (headHanded s v)
    else none

/-- What a step struck in the state `t` leaves of `s` to the reset: the parts of the blocks that a warm reset retains.
The clock, the pins and the waiting commands are the outside's, and a pin's level comes by its own command (log 9). -/
def State.keeping (s t : State) : State :=
  { s with store := t.store, zones := t.zones, lists := t.lists, door := t.door, cycle := t.cycle, hearth := t.hearth,
           pace := t.pace, freeIx := t.freeIx }

/-- A switch application struck at an unknown stage: it runs where nothing defers it and the result fits, and a failing
one changes no bank (R110, R111, R113). -/
def State.switchStruck (s : State) (cause : SwitchCause) : State :=
  match s.beforeSwitch cause with
  | some t => if t.switchFits then s.keeping t.banksStruck else s
  | none => s

/-- What the struck operation had done, before the reset itself (R113, R146, R159, log 9). An operation that could not
be in progress in this state leaves it as it stands. -/
def State.struck (s : State) : Strike → State
  | .between => s
  | .commitBegun => if s.commitPossible then s.commitBase.hearthStruck else s
  | .commitAppended totals => if s.commitPossible then s.commitPart totals 0 false else s
  | .commitRemoving first =>
    if s.commitPossible then
      let t := s.commitPart true (if first then 1 else 0) false
      if s.cycle.charge.length = 2 ∧ s.cycle.charge.any (fun id => bankHolds s.lists.active id) then t.listStruck else t
    else s
  | .commitListed => if s.commitPossible then s.commitPart true 2 false else s
  | .commitBarOut => if s.commitPossible then s.commitPart true 2 true else s
  | .commitSwitch =>
    if s.commitPossible then
      let t := s.commitPart true 2 true
      if t.lists.deferred && t.switchFits then t.banksStruck else t
    else s
  | .discharge removed totals =>
    if s.phase ≠ .unstarted ∧ s.params.hasFurnace ∧ s.hearth.positions ≠ [] then
      if removed then s.hearthPart (s.hearth.removeAt 0) totals else s.hearthStruck
    else s
  | .restore block appended totals =>
    match restorePosition? block s.now s.hearth.nextNumber with
    | some p =>
      if s.requestPossible ∧ s.editsRefused = false ∧ s.hearth.positions.length < 48 ∧
          s.restoreDuplicate (p.slabs.map (·.id)) = false ∧
          (s.started = false ∨ s.hearth.hasRoom s.params p.pitch p.weightSum) then
        if appended then s.hearthPart (s.hearth.append p) totals else s.hearthStruck
      else s
    | none => s
  | .remove index removed totals =>
    if s.requestPossible ∧ s.editsRefused = false ∧ index.toNat < s.hearth.positions.length then
      if removed then s.hearthPart (s.hearth.removeAt index.toNat) totals else s.hearthStruck
    else s
  | .clear removed totals =>
    if s.requestPossible ∧ s.editsRefused = false then
      let rest := s.hearth.positions.drop removed
      s.hearthPart { s.hearth with positions := rest, count := rest.length, fill := fillOf rest, load := loadOf rest }
        totals
    else s
  | .append bank blocks appended =>
    match Bank.ofCode? bank.toNat, entries? blocks with
    | some b, some es =>
      if s.requestPossible ∧ 1 ≤ es.length ∧ es.length ≤ 24 ∧ 1 ≤ (appendAll (s.lists.bank b) es).2.1 then
        { s with lists := s.lists.setBank b (appendAll (s.lists.bank b) (es.take appended)).1 }.listStruck
      else s
    | _, _ => s
  | .switch cause => s.switchStruck cause

/-- A warm reset that strikes an operation where it stands (R180). -/
def State.resetStriking (s : State) (strike : Strike) : State := (s.struck strike).warmReset

end Sys2Proof.Machine
end

