-- ==== Sys2Proof/Machine/Port.lean ====
section
/-! DEFINITION. The control port's transactions and the Control Port's own commands (Chapter 11): overruns, fetches, bad
frames, SET_PARAMETER, START, RESTART, watches, the alert level and the reads. -/

namespace Sys2Proof.Machine

/-- REQUEST_OVERRUN: a request that ends while the port is in work or answered is discarded and sets OVERRUN (R176). On an
idle port the command is no overrun and changes nothing: a request taken there is another command (log 8). -/
def execRequestOverrun (bytes : List Byte) (s : State) : Result :=
  if s.resetLow || !isRequest bytes || s.port.state == .idle then .next s
  else .next (hostRequest bytes.length s fun t => (t, .done))

/-- RESPONSE_FETCH: the held response is clocked out and, once read whole, dropped; otherwise BUSY. The end of the fetch
that reads RESTART's response brings the warm reset, which can strike no request: the port takes none while it holds a
response (R176, R180). -/
def execResponseFetch (clocked : Nat) (strike : Strike) (s : State) : Result :=
  if s.resetLow then .next s
  else match s.port.state with
    | .answered r =>
      let t := s.modPort fun p => { p with miso := fetchMiso clocked r }
      if (responseBytes r).length ≤ clocked then
        if s.port.restartPending then
          .next ((t.resetStriking strike).modPort fun p => { p with miso := fetchMiso clocked r })
        else .next (t.modPort fun p => { p with state := .idle, restartPending := false })
      else .next t
    | _ => .next (s.modPort fun p => { p with miso := fetchMiso clocked .busy })

/-- BAD_FRAME_REQUEST: a request that fails the frame check is answered BAD_FRAME with no other effect (R176). -/
def execBadFrameRequest (bytes : List Byte) (s : State) : Result :=
  if isRequest bytes && (requestOfBytes? bytes).isNone then
    .next (hostRequest bytes.length s fun t => (t, { status := .badFrame }))
  else .next s

/-- SET_PARAMETER: LOCKED once started, RANGE for an id or a value out of its range (R178). -/
def execSetParameter (id : Byte) (value : Word) (s : State) : Result :=
  .next (hostRequest 8 s fun t =>
    if t.phase ≠ .unstarted then (t, .refuse .locked)
    else match paramRow? id.toNat with
      | none => (t, .refuse .range)
      | some row =>
        if inRange row.lo row.hi value.toNat then
          ({ t with params := t.params.put id.toNat value.toNat }, .done)
        else (t, .refuse .range))

/-- START: MODE once started; a failing test refuses it, naming the parameter; otherwise the configuration is latched,
the inputs are enabled and the pool check is made, and the port stays in work until reconciliation (R15, R179). A START
refused MODE names no parameter and its payload is empty (DESIGN CHOICE, log 83). -/
def execStart (s : State) : Result :=
  if s.resetLow then .next s
  else
    let t := s.modPort fun p => { p with miso := quietMiso 3 }
    match s.port.state with
    | .idle =>
      if t.phase ≠ .unstarted then .next (t.answer (.refuse .mode))
      else match firstFailure t.startTests with
        | some (reason, id) => .next (t.answer { status := .refused, reason := reason, payload := u1 id })
        | none => .next (t.latch.modPort fun p => { p with state := .inWork false })
    | _ => .next (t.modPort fun p => { p with state := p.state.overrun })

/-- START_RECONCILIATION: FILTER_MS after START the zones are reconciled, the door substate derived and the Line
Interface enters LISTENING; the response OK is built last (R38, R39, R55, R179). -/
def execStartReconciliation (s : State) : Result :=
  match s.phase with
  | .reconciling 0 => .next ((finish s s.completeStart).answer .done)
  | _ => .next s

/-- RESTART: answered OK; the warm reset strikes when the fetch that reads the response ends (R180). -/
def execRestart (s : State) : Result :=
  .next (hostRequest 3 s fun t => (t.modPort fun p => { p with restartPending := true }, .done))

/-- WATCH_SET: RANGE for the slot or an ID of 0, DUPLICATE for an ID of the other slot (R13). -/
def execWatchSet (slot : Byte) (id : Word) (s : State) : Result :=
  .next (hostRequest 8 s fun t =>
    let n := id.toNat
    if id = 0 then (t, .refuse .range)
    else if slot = 1 then
      if t.store.watch2 = some n then (t, .refuse .duplicate)
      else ({ t with store := { t.store with watch1 := some n } }, .done)
    else if slot = 2 then
      if t.store.watch1 = some n then (t, .refuse .duplicate)
      else ({ t with store := { t.store with watch2 := some n } }, .done)
    else (t, .refuse .range))

/-- WATCH_CLEAR empties the slot; a slot number other than 1 or 2 is refused RANGE (R13, log 48). -/
def execWatchClear (slot : Byte) (s : State) : Result :=
  .next (hostRequest 4 s fun t =>
    if slot = 1 then ({ t with store := { t.store with watch1 := none } }, .done)
    else if slot = 2 then ({ t with store := { t.store with watch2 := none } }, .done)
    else (t, .refuse .range))

/-- SET_ALERT_LEVEL: 0 to 7, RANGE otherwise (R185). -/
def execSetAlertLevel (level : Byte) (s : State) : Result :=
  .next (hostRequest 4 s fun t =>
    if level.toNat ≤ 7 then (t.modPort fun p => { p with alertLevel := level.toNat }, .done)
    else (t, .refuse .range))

/-- READ_STATUS (R182). -/
def execReadStatus (s : State) : Result :=
  .next (hostRequest 3 s fun t => (t, .okWith t.statusPayload))

/-- READ_RANGE: an index outside its group's range refuses the read RANGE (R181). -/
def execReadRange (zoneFirst zoneLast hearthFirst hearthLast : Byte) (s : State) : Result :=
  .next (hostRequest 7 s fun t =>
    if zoneFirst.toNat ≤ 5 ∧ zoneLast.toNat ≤ 5 ∧ hearthFirst.toNat ≤ 47 ∧ hearthLast.toNat ≤ 47 then
      (t, .okWith (t.rangePayload zoneFirst.toNat zoneLast.toNat hearthFirst.toNat hearthLast.toNat))
    else (t, .refuse .range))

/-- The line's counts and the entries' gap counts set to 0 and the status-changed flags cleared (R64). -/
def LineInterface.readOut (l : LineInterface) : LineInterface :=
  { l with lineErrors := 0, foreign := 0, collisions := 0,
           peers := l.peers.map fun p => { p with gaps := 0, changed := false } }

/-- READ_PEERS: the view of the line, whose counts and flags it then clears (R64). -/
def execReadPeers (s : State) : Result :=
  .next (hostRequest 3 s fun t => ({ t with line := t.line.readOut }, .okWith t.peersPayload))

/-- READ_EVENTS: up to n reports leave the front of the queue; RANGE for n outside 1 to 32 (R184). -/
def execReadEvents (n : Byte) (s : State) : Result :=
  .next (hostRequest 4 s fun t =>
    if inRange 1 32 n.toNat then
      let taken := t.port.reports.take n.toNat
      let rest := t.port.reports.drop n.toNat
      (t.modPort fun p => { p with reports := rest }, .okWith (eventsPayload taken rest))
    else (t, .refuse .range))

/-- READ_RECORD: UNKNOWN_ID for an ID that the pool does not hold, one that only the hearth record holds included (R16;
R164 says otherwise, log 63). -/
def execReadRecord (id : Word) (s : State) : Result :=
  .next (hostRequest 7 s fun t =>
    match t.record? id.toNat with
    | some r => (t, .okWith (t.recordPayload r))
    | none => (t, .refuse .unknownId))

end Sys2Proof.Machine
end

