-- ==== Sys2Proof/Machine/Resets.lean ====
section
/-! DEFINITION. POWER_ON, RESET_PIN_LOW, RESET_RELEASE (R180). -/

namespace Sys2Proof.Machine

/-- POWER_ON: cold reset. The pins, the commands that wait and the index of the next free value are not the part's own
state and stay (R180, log 3, log 10). -/
def execPowerOn (s : State) : Result :=
  .next { State.reset with pins := s.pins, resetLow := s.resetLow, freeIx := s.freeIx, pending := s.pending }

/-- RESET_PIN_LOW: a warm reset strikes at once and the part is held in reset (R180). -/
def execResetPinLow (strike : Strike) (s : State) : Result :=
  if s.resetLow then .next s
  else .next { s.resetStriking strike with resetLow := true }

/-- RESET_RELEASE: RESET# rises and the part leaves reset, UNSTARTED (R180). -/
def execResetRelease (s : State) : Result := .next { s with resetLow := false }

end Sys2Proof.Machine
end

