-- ==== Sys2Proof/Machine/Dispatch.lean ====
section
/-! DEFINITION. The meaning of each command: one arm per constructor of Instr. -/

namespace Sys2Proof.Machine

/-- What a command does to everything but the queue. -/
def exec (i : Instr) (s : State) : Host.Outcome State Fault Refusal :=
  match i with
  | .powerOn => Sys2Proof.Machine.execPowerOn s
  | .resetPinLow strike => Sys2Proof.Machine.execResetPinLow strike s
  | .resetRelease => Sys2Proof.Machine.execResetRelease s
  | .requestOverrun bytes => Sys2Proof.Machine.execRequestOverrun bytes s
  | .responseFetch clocked strike => Sys2Proof.Machine.execResponseFetch clocked strike s
  | .setParameter id value => Sys2Proof.Machine.execSetParameter id value s
  | .start => Sys2Proof.Machine.execStart s
  | .startReconciliation => Sys2Proof.Machine.execStartReconciliation s
  | .restart => Sys2Proof.Machine.execRestart s
  | .expectLanding zone slab => Sys2Proof.Machine.execExpectLanding zone slab s
  | .cancelExpect zone => Sys2Proof.Machine.execCancelExpect zone s
  | .identify zone slab => Sys2Proof.Machine.execIdentify zone slab s
  | .hold id => Sys2Proof.Machine.execHold id s
  | .release id => Sys2Proof.Machine.execRelease id s
  | .readRecord id => Sys2Proof.Machine.execReadRecord id s
  | .listAppend bank entries => Sys2Proof.Machine.execListAppend bank entries s
  | .listClearPending => Sys2Proof.Machine.execListClearPending s
  | .listSwitch => Sys2Proof.Machine.execListSwitch s
  | .listSkipHead => Sys2Proof.Machine.execListSkipHead s
  | .listInsertHead entry => Sys2Proof.Machine.execListInsertHead entry s
  | .readList bank first last => Sys2Proof.Machine.execReadList bank first last s
  | .confirmCharged => Sys2Proof.Machine.execConfirmCharged s
  | .confirmOnTable => Sys2Proof.Machine.execConfirmOnTable s
  | .hearthRestore block => Sys2Proof.Machine.execHearthRestore block s
  | .hearthRemove index => Sys2Proof.Machine.execHearthRemove index s
  | .hearthClear => Sys2Proof.Machine.execHearthClear s
  | .hearthConfirm => Sys2Proof.Machine.execHearthConfirm s
  | .lineHalt => Sys2Proof.Machine.execLineHalt s
  | .lineResume => Sys2Proof.Machine.execLineResume s
  | .releaseHolder station => Sys2Proof.Machine.execReleaseHolder station s
  | .clearFault zone => Sys2Proof.Machine.execClearFault zone s
  | .watchSet slot id => Sys2Proof.Machine.execWatchSet slot id s
  | .watchClear slot => Sys2Proof.Machine.execWatchClear slot s
  | .setAlertLevel level => Sys2Proof.Machine.execSetAlertLevel level s
  | .readStatus => Sys2Proof.Machine.execReadStatus s
  | .readRange zoneFirst zoneLast hearthFirst hearthLast => Sys2Proof.Machine.execReadRange zoneFirst zoneLast hearthFirst hearthLast s
  | .readPeers => Sys2Proof.Machine.execReadPeers s
  | .readEvents n => Sys2Proof.Machine.execReadEvents n s
  | .secondsTick => Sys2Proof.Machine.execSecondsTick s
  | .resumeCreepEnd => Sys2Proof.Machine.execResumeCreepEnd s
  | .entrySensorRise zone stamp => Sys2Proof.Machine.execEntrySensorRise zone stamp s
  | .entrySensorFall zone stamp => Sys2Proof.Machine.execEntrySensorFall zone stamp s
  | .restSensorRise zone stamp => Sys2Proof.Machine.execRestSensorRise zone stamp s
  | .restSensorFall zone => Sys2Proof.Machine.execRestSensorFall zone s
  | .landingInputRise zone => Sys2Proof.Machine.execLandingInputRise zone s
  | .landingInputFall zone => Sys2Proof.Machine.execLandingInputFall zone s
  | .encoderPulse group dir => Sys2Proof.Machine.execEncoderPulse group dir s
  | .slabStill => Sys2Proof.Machine.execSlabStill s
  | .moveTimeout zone => Sys2Proof.Machine.execMoveTimeout zone s
  | .handoverBroken => Sys2Proof.Machine.execHandoverBroken s
  | .handoverTimeout => Sys2Proof.Machine.execHandoverTimeout s
  | .offerUnanswered => Sys2Proof.Machine.execOfferUnanswered s
  | .driveStall group => Sys2Proof.Machine.execDriveStall group s
  | .pairWaitExpiry => Sys2Proof.Machine.execPairWaitExpiry s
  | .doorOpenActive => Sys2Proof.Machine.execDoorOpenActive s
  | .doorOpenFall => Sys2Proof.Machine.execDoorOpenFall s
  | .doorShutActive active => Sys2Proof.Machine.execDoorShutActive active s
  | .pushDoneRise active => Sys2Proof.Machine.execPushDoneRise active s
  | .barHomeActive active => Sys2Proof.Machine.execBarHomeActive active s
  | .furnPermitRise => Sys2Proof.Machine.execFurnPermitRise s
  | .furnPermitFall => Sys2Proof.Machine.execFurnPermitFall s
  | .doorTimeoutOpening => Sys2Proof.Machine.execDoorTimeoutOpening s
  | .pushTimeout => Sys2Proof.Machine.execPushTimeout s
  | .barFault => Sys2Proof.Machine.execBarFault s
  | .doorTimeoutClosing => Sys2Proof.Machine.execDoorTimeoutClosing s
  | .discharge stamp => Sys2Proof.Machine.execDischarge stamp s
  | .estopActive => Sys2Proof.Machine.execEstopActive s
  | .estopInactive => Sys2Proof.Machine.execEstopInactive s
  | .frameError => Sys2Proof.Machine.execFrameError s
  | .declareReceived header decl => Sys2Proof.Machine.execDeclareReceived header decl s
  | .haltReceived header reason => Sys2Proof.Machine.execHaltReceived header reason s
  | .resumeReceived header => Sys2Proof.Machine.execResumeReceived header s
  | .offerReceived header offer => Sys2Proof.Machine.execOfferReceived header offer s
  | .acceptReceived header tag id cls => Sys2Proof.Machine.execAcceptReceived header tag id cls s
  | .declineReceived header tag id reason => Sys2Proof.Machine.execDeclineReceived header tag id reason s
  | .arrivedReceived header tag id => Sys2Proof.Machine.execArrivedReceived header tag id s
  | .withdrawReceived header tag id => Sys2Proof.Machine.execWithdrawReceived header tag id s
  | .transmitAttemptStart idle => Sys2Proof.Machine.execTransmitAttemptStart idle s
  | .collision => Sys2Proof.Machine.execCollision s
  | .attemptComplete => Sys2Proof.Machine.execAttemptComplete s
  | .listenHalfEnd => Sys2Proof.Machine.execListenHalfEnd s
  | .countHalfEnd => Sys2Proof.Machine.execCountHalfEnd s
  | .declarationPeriod => Sys2Proof.Machine.execDeclarationPeriod s
  | .declareChangeHoldoff => Sys2Proof.Machine.execDeclareChangeHoldoff s
  | .lineSilent => Sys2Proof.Machine.execLineSilent s
  | .peerStale station => Sys2Proof.Machine.execPeerStale station s
  | .badFrameRequest bytes => Sys2Proof.Machine.execBadFrameRequest bytes s

end Sys2Proof.Machine
end

