-- ==== Sys2Proof/Machine/Tick.lean ====
section
/-! DEFINITION. What one millisecond does when no command waits (log 1): the clock advances, the running timers count
down, the peers' ages rise, and the expiries that are due join the queue. -/

namespace Sys2Proof.Machine

/-- A timer counts down by a millisecond while it runs; a frozen one keeps its remaining time (R26, R132, R139). -/
def countDown (runs : Bool) (t : Timer) : Timer := if runs then t.map (· - 1) else t

/-- A running timer has run out. -/
def runOut (runs : Bool) (t : Timer) : Bool := runs && t == some 0

/-- The command, when it is due. -/
def dueWhen (due : Bool) (i : Instr) : List Instr := if due then [i] else []

/-! ## Which timers run -/

/-- Zone `k`'s motion timer runs: the move it serves is not HELD (R26). -/
def State.zoneTimerRuns (s : State) (k : Nat) : Bool := s.serveClass k != .held

/-- The cycle timer runs: in RUN (R95, R139). -/
def State.cycleRuns (s : State) : Bool := s.line.mode == .run

/-! ## Counting -/

/-- The clock advances by a millisecond; every thousandth ends a second. -/
def Clock.advance (c : Clock) : Clock :=
  { c with millis := c.millis + 1, subsec := if 999 ≤ c.subsec then 0 else c.subsec + 1 }

/-- An entry's age rises by a millisecond and saturates at 65,535 (R60). -/
def Peer.grow (p : Peer) : Peer := { p with age := p.age.map fun a => min (a + 1) 65535 }

/-- The Line Interface's timers count and the ages rise (R52, R55, R59, R60). -/
def LineInterface.tick (l : LineInterface) : LineInterface :=
  { l with windowTimer := countDown true l.windowTimer, period := countDown true l.period,
           holdoff := countDown true l.holdoff, silence := countDown true l.silence,
           peers := l.peers.map Peer.grow }

/-- The door zone context's timers count (R119, R128, R132). -/
def State.tickDoor (s : State) : Door :=
  { s.door with pairTimer := countDown s.pairTimerRuns s.door.pairTimer,
                stallNear := countDown true s.door.stallNear, stallFar := countDown true s.door.stallFar,
                still := countDown true s.door.still }

/-- The zones' motion timers count (R26). -/
def State.tickZones (s : State) : List Zone :=
  ((List.range s.zones.length).zip s.zones).map fun p =>
    { p.2 with timer := countDown (s.zoneTimerRuns p.1) p.2.timer }

/-- Every timer of a started station counts. -/
def State.tickTimers (s : State) : State :=
  { s with zones := s.tickZones, creep := countDown true s.creep, line := s.line.tick,
           out := { s.out with answer := countDown true s.out.answer }, door := s.tickDoor,
           cycle := { s.cycle with timer := countDown s.cycleRuns s.cycle.timer } }

/-! ## What is due -/

/-- The expiry of zone `k`'s motion timer: of a crossing, or of an internal move (R26, R80, R81). -/
def State.zoneExpiry (s : State) (k : Nat) : List Instr :=
  if runOut (s.zoneTimerRuns k) (s.zone k).timer then
    if s.crossingOut k then [.handoverBroken]
    else if s.crossingIn k then [.handoverTimeout]
    else if h : k < 6 then [.moveTimeout ⟨k, h⟩] else []
  else []

/-- The expiry of the cycle timer by the cycle's state (R143 to R148). -/
def State.cycleExpiry (s : State) : List Instr :=
  if runOut s.cycleRuns s.cycle.timer then
    match s.cycle.state with
    | .doorOpening => [.doorTimeoutOpening]
    | .pushing => [.pushTimeout]
    | .retracting => [.barFault]
    | .doorClosing => [.doorTimeoutClosing]
    | _ => []
  else []

/-- The end of a half of the qualification window (R55, R56). -/
def LineInterface.windowExpiry (l : LineInterface) : List Instr :=
  if l.windowTimer = some 0 then
    match l.stage with
    | .listen => [.listenHalfEnd]
    | .count => [.countHalfEnd]
    | _ => []
  else []

/-- The entries whose age has reached 1,000 ms (R63). -/
def LineInterface.staleExpiry (l : LineInterface) : List Instr :=
  (l.peers.filter Peer.aged).map
    fun p => .peerStale (byteOf p.station)

/-- The expiries of a started station that are due, in one order of the spec's either orders (log 1). -/
def State.expiries (s : State) : List Instr :=
  (List.range s.zones.length).flatMap s.zoneExpiry ++
  dueWhen (s.out.answer == some 0) .offerUnanswered ++
  dueWhen (s.door.stallNear == some 0) (.driveStall .near) ++
  dueWhen (s.door.stallFar == some 0) (.driveStall .far) ++
  dueWhen (s.door.still == some 0 && s.door.phase == .stopping && !s.door.suspended) .slabStill ++
  dueWhen (runOut s.pairTimerRuns s.door.pairTimer && s.doorEntry.state != .fault) .pairWaitExpiry ++
  s.cycleExpiry ++
  dueWhen (s.creep == some 0) .resumeCreepEnd ++
  s.line.windowExpiry ++
  dueWhen (s.line.period == some 0) .declarationPeriod ++
  dueWhen (s.line.holdoff == some 0) .declareChangeHoldoff ++
  dueWhen (s.line.silence == some 0) .lineSilent ++
  s.line.staleExpiry

/-- The wait of FILTER_MS after START counts down (R38). -/
def StartPhase.tick : StartPhase → StartPhase
  | .reconciling n => .reconciling (n - 1)
  | p => p

/-- One millisecond on an empty queue (log 1); pulses older than FILTER_MS leave the near log, since no edge accepted
from now on has a stamp before them (R20, R117). -/
def State.tick (s : State) : State :=
  let second := decide (999 ≤ s.clk.subsec)
  let log := freshLog s.door.nearLog s.clk.advance.millis s.params.filterMs
  let t := { s with clk := s.clk.advance, phase := s.phase.tick, door := { s.door with nearLog := log } }
  let u := if t.started then t.tickTimers else t
  let due := dueWhen second .secondsTick ++ dueWhen (u.phase == .reconciling 0) .startReconciliation ++
    (if u.started then u.expiries else [])
  { u with pending := s.pending ++ due }

end Sys2Proof.Machine
end

