-- ==== Sys2Proof/Machine/Wire.lean ====
section
/-! DEFINITION. What the connections carry below the level of the commands: the filter of a field input (R20), the
characters of an attempt (R42), the receiver that cuts them into frames (R43), the bits of the control port (R175), and
the setpoint output (R187). Each is a machine of its own whose results are the commands of the queue (log 4, log 38,
log 40). -/

namespace Sys2Proof.Machine

/-! ## The input filter (R20) -/

/-- A filtered input: its accepted level, and the moment since which the raw level has differed from it. -/
structure Filter where
  level : Bool := false
  since : Option Word := none
  deriving DecidableEq, Repr

/-- An accepted edge: its new level and its stamp. -/
structure Edge where
  level : Bool
  stamp : Word
  deriving DecidableEq, Repr

/-- The filter reads the raw level at a millisecond: a change is accepted once it has held for FILTER_MS, with the
stamp of the raw change that began it; one that reverts sooner leaves nothing (R20). -/
def Filter.sample (f : Filter) (raw : Bool) (now : Word) (filterMs : Nat) : Filter × Option Edge :=
  if raw = f.level then ({ f with since := none }, none)
  else
    let began := f.since.getD now
    if filterMs ≤ (now - began).toNat then (⟨raw, none⟩, some ⟨raw, began⟩)
    else ({ f with since := some began }, none)

/-! ## Characters (R42) -/

/-- A character on TXD: one start bit, eight data bits least significant first, one stop bit (R42). -/
def characterBits (b : Byte) : List Bool :=
  [false] ++ (List.range 8).map (fun i => b.getLsbD i) ++ [true]

/-- The bits of a whole attempt: its characters with no idle time between them (R42). -/
def attemptBits (bs : List Byte) : List Bool := bs.flatMap characterBits

/-- The level of TXD `n` bit times after the start bit of the attempt in progress: the bits of its frame, and high once
they are out; without an attempt TXD idles high (R42). -/
def State.txd (s : State) (n : Nat) : Bool :=
  match s.line.attempt with
  | some a => (attemptBits (frameBytes a.frame)).getD n true
  | none => true

/-- TXEN `n` bit times after the start bit of the attempt in progress: raised until the last stop bit is out, and released
at once when the attempt is aborted (R42, R49). -/
def State.txenAt (s : State) (n : Nat) : Bool :=
  match s.line.attempt with
  | some a => decide (n < (attemptBits (frameBytes a.frame)).length)
  | none => false

/-! ## The receiver (R43) -/

/-- What RXD shows: a character, whole or with its stop bit low, or a span of idle bit times. -/
inductive RxEvent where
  | char (b : Byte)
  | brokenChar
  | idle (bits : Nat)
  deriving DecidableEq, Repr

/-- Where the receiver stands: between frames, in one with the bytes so far, or waiting for the line to go idle, after a
frame or the station's own readback. -/
inductive Rx where
  | ready
  | within (bytes : List Byte)
  | waiting
  deriving DecidableEq, Repr

/-- What the receiver has cut out: a frame of bytes to be checked by R44, or a broken frame. -/
inductive RxResult where
  | frame (bytes : List Byte)
  | error
  deriving DecidableEq, Repr

/-- The length of the frame that begins with these bytes: n + 7, once its length byte is there (R43). -/
def frameLength? (bytes : List Byte) : Option Nat := (bytes[4]?).map fun n => n.toNat + 7

/-- A byte joins the frame being received (R43). -/
def Rx.take (bytes : List Byte) (b : Byte) : Rx × Option RxResult :=
  let bs := bytes ++ [b]
  match frameLength? bs with
  | none => (.within bs, none)
  | some n =>
    if 55 < n then (.waiting, some .error)
    else if bs.length < n then (.within bs, none)
    else (.waiting, some (.frame bs))

/-- The receiver takes one event while the own transmitter does not hold TXEN. After a whole frame or a broken one it
takes no character until the line has been idle for more than 20 bit times (R43). -/
def Rx.listen (r : Rx) : RxEvent → Rx × Option RxResult
  | .char b =>
    match r with
    | .ready => Rx.take [] b
    | .within bytes => Rx.take bytes b
    | .waiting => (.waiting, none)
  | .brokenChar =>
    match r with
    | .waiting => (.waiting, none)
    | _ => (.waiting, some .error)
  | .idle bits =>
    if 20 < bits then
      match r with
      | .within _ => (.ready, some .error)
      | _ => (.ready, none)
    else (r, none)

/-- The receiver takes one event. While the own transmitter holds TXEN the characters are its readback: none is part of a
frame or a frame error, however the attempt ends, and the next frame begins after the line has gone idle (R43). -/
def Rx.step (r : Rx) (txen : Bool) (e : RxEvent) : Rx × Option RxResult :=
  if txen then (.waiting, none) else r.listen e

/-- The receiver over a run of events, each with TXEN as it stood, and all it has cut out. -/
def Rx.run (r : Rx) : List (Bool × RxEvent) → Rx × List RxResult
  | [] => (r, [])
  | e :: es =>
    let here := r.step e.1 e.2
    let rest := Rx.run here.1 es
    (rest.1, here.2.toList ++ rest.2)

/-- The command a result of the receiver gives: the good frame's, or FRAME_ERROR (R44, R48). -/
def RxResult.command : RxResult → Instr
  | .frame bytes =>
    match frameOfBytes? bytes with
    | some f => f.command
    | none => .frameError
  | .error => .frameError

/-! ## The control port's lines (R175) -/

/-- A byte of a transaction on MOSI or MISO, most significant bit first (R175). -/
def spiBits (b : Byte) : List Bool := (List.range 8).map fun i => b.getMsbD i

/-! ## The setpoint output (R187) -/

/-- The levels of SP_CLK, SP_DATA and SP_LATCH for 5 µs. -/
structure SetpointLines where
  clk : Bool
  data : Bool
  latch : Bool
  deriving DecidableEq, Repr

/-- The idle lines: all low (R187). -/
def SetpointLines.idle : SetpointLines := ⟨false, false, false⟩

/-- One bit at 100 kHz: the data stands for a half period before the rising edge of SP_CLK and through its high half
(R187, log 38). -/
def setpointBit (b : Bool) : List SetpointLines := [⟨false, b, false⟩, ⟨true, b, false⟩]

/-- The transfer of a stroke: 16 bits most significant first, then one pulse of 10 µs on SP_LATCH (R187). -/
def setpointWave (stroke : Half) : List SetpointLines :=
  (List.range 16).flatMap (fun i => setpointBit (stroke.getMsbD i)) ++
  [⟨false, false, true⟩, ⟨false, false, true⟩, SetpointLines.idle]

/-- What the charging machine reads at the latch: the data at the rising edges of SP_CLK, first bit most significant. -/
def setpointRead (wave : List SetpointLines) : Nat :=
  (wave.filter (·.clk)).foldl (fun acc l => 2 * acc + l.data.toNat) 0

end Sys2Proof.Machine
end

