-- ==== Sys2Proof/Safety.lean ====
section
/-! DEFINITION. What counts as safe, in the terms the statements use: a port that can take a request, the ways a request
is answered, the outputs that move steel, and what every step keeps of the reports, the lists, the halt set, the slab IDs
and the hearth. -/

namespace Sys2Proof.Machine

/-! ## Requests -/

/-- The port is idle and RESET# is high, so that a request is taken (R176). -/
abbrev State.portFree (s : State) : Prop := s.resetLow = false ∧ s.port.state = .idle

/-- A request of a number of bytes has been clocked in: MISO carried FFh through it (R175). -/
def State.taken (s : State) (bytes : Nat) : State := s.modPort fun p => { p with miso := quietMiso bytes }

/-- A request is answered and changes nothing else. -/
def replied (s : State) (bytes : Nat) (r : Response) : Result := .next ((s.taken bytes).answer r)

/-- A request has changed the station into `v`; what follows is part of its step, and it is answered. -/
def settledReply (s : State) (bytes : Nat) (v : State) (r : Response) : Result :=
  .next ((finish (s.taken bytes) v).answer r)

/-- A request is refused with a reason; what is due in the station is settled. -/
def refusedReply (s : State) (bytes : Nat) (reason : Reason) : Result :=
  settledReply s bytes (s.taken bytes) (.refuse reason)

/-! ## What a commit and an own halt cause leave -/

/-- The reports of a commit in the order of R146: the removals' (R112), CHARGED for each slab with the margin,
RESIDENCE_SATURATED for each slab whose product saturates, SOAK_SHORTFALL when the margin is below 0, and the watch hits of
hit point 5 (R14, R168, R169). -/
def State.chargeReports (s : State) (slabs : List HearthSlab) (margin : Int) : State :=
  let dz := some s.params.doorZone
  let a := s.cycle.charge.foldl (fun t id => t.removeCharged id) s
  let b := s.cycle.charge.foldl (fun t id => t.report .charged dz (some id) (some margin)) a
  let c := slabs.foldl (fun t x =>
    if 65535 < x.thickness * s.params.heating x.cls then
      t.report .residenceSaturated dz (some x.id) (some (x.thickness * s.params.heating x.cls : Nat))
    else t) b
  let d := if margin < 0 then c.report .soakShortfall dz s.cycle.charge.head? (some margin) else c
  s.cycle.charge.foldl (fun t id => t.watchHit id dz 5) d

/-- `v` is `s` with its charge committed (R146, R112, R156): the position joins the young end with the charge's data, its
records leave the pool, its entries leave ACTIVE, the door zone holds no slab and the bar stands across it, the cycle is
RETRACTING with a full timer, and the commit's reports are queued before those of the pace that follows. -/
def State.chargeMade (s v : State) : Prop :=
  v = { s with store := v.store, zones := v.zones, lists := v.lists, door := v.door, cycle := v.cycle,
               hearth := v.hearth, pace := v.pace, port := v.port } ∧
  (∃ p : Position,
    v.hearth = { s.hearth with
      positions := s.hearth.positions ++ [p], count := s.hearth.count + 1, fill := s.hearth.fill + p.pitch,
      load := s.hearth.load + p.weightSum,
      nextNumber := if 65535 ≤ s.hearth.nextNumber then 1 else s.hearth.nextNumber + 1 } ∧
    p.number = s.hearth.nextNumber ∧ p.pitch = s.cycle.pitch ∧ p.weightSum = s.cycle.weightSum ∧
    p.stroke = s.cycle.stroke ∧ p.offCentre = s.cycle.offCentre ∧ p.chargeTime = signedStamp s.now ∧
    p.slabs = (s.cycle.charge.filterMap s.record?).map (fun r => ⟨r.id, r.thickness, r.width, r.weight, r.cls⟩) ∧
    p.residence = (p.slabs.map fun x => min (x.thickness * s.params.heating x.cls) 65535).foldl max 0 ∧
    p.saturated = p.slabs.any (fun x => decide (65535 < x.thickness * s.params.heating x.cls)) ∧
    p.margin = some (max (-65535) (min 65535 (((s.hearth.count + 1) * s.pace.davg : Nat) - (p.residence : Int)))) ∧
    ∃ u : State, u = { s.chargeReports p.slabs (p.margin.getD 0) with hearth := v.hearth } ∧
      v.port = u.recomputeDreq.port ∧ v.pace = u.recomputeDreq.pace) ∧
  v.store = { s.store with pool := s.store.pool.filter fun r => !s.cycle.charge.contains r.id } ∧
  v.lists = { s.lists with active := s.lists.active.filter fun e => !s.cycle.charge.contains e.id } ∧
  v.zones.length = s.zones.length ∧ (∀ j, j ≠ s.params.doorZone → (v.zone j).state = (s.zone j).state) ∧
  (s.doorEntry.state ≠ .fault → s.params.doorZone < s.zones.length →
    v.doorEntry.state = .occupied ∧ v.doorEntry.departing = false ∧ v.doorEntry.occ = []) ∧
  v.door.substate = .barOut ∧ v.door.tracks = s.door.tracks.filter (fun t => !s.cycle.charge.contains t.id) ∧
  v.cycle = { s.cycle with state := .retracting, committing := false, limbo := none, latePush := false,
                           timer := some s.params.pushTimeout } ∧
  (s.phase ≠ .unstarted → v.pace.dreq = min (largestNeed s.now v.hearth.positions) 7200)

/-- `v` is `u` with an own halt cause added (R92): the first one puts the station into its own set with HALT_ON, takes RUN
to HALTED, and places a HALT with its reason where the station may transmit; a later one changes neither. -/
def State.causeAdded (u : State) (r : HaltReason) (v : State) : Prop :=
  v.halt.causes = u.halt.causes.put r true ∧
  (u.halt.causes.any = true → v = { u with halt := { u.halt with causes := v.halt.causes } }) ∧
  (u.halt.causes.any = false → u.params.stationNo ∉ u.halt.holders →
    v = { u with halt := v.halt, creep := v.creep, port := v.port,
                 line := { u.line with mode := v.line.mode, slots := v.line.slots } } ∧
    (∀ m, m ∈ v.halt.holders ↔ m = u.params.stationNo ∨ m ∈ u.halt.holders) ∧
    v.port = (u.report .haltOn
      (value := some (256 * u.params.stationNo + holderSum v.halt.holders : Nat))).port ∧
    (u.line.mode = .run → v.line.mode = .halted ∧ v.creep = none) ∧
    (u.line.mode ≠ .run → v.line.mode = u.line.mode ∧ v.creep = u.creep) ∧
    (u.line.mayTransmit = true →
      v.line.slots.lineHalt.map (fun f => f.content) = some (.halt r) ∧
      v.line.slots = { u.line.slots with lineHalt := v.line.slots.lineHalt }) ∧
    (u.line.mayTransmit = false → v.line.slots = u.line.slots))

/-- `v` is `u` with an own halt cause removed (R92, R98): the last one takes the station out of its own set with HALT_OFF,
takes HALTED to RUN with the resume creep period when the set is then empty, and places a RESUME where the station may
transmit; another one changes neither. -/
def State.causeRemoved (u : State) (r : HaltReason) (v : State) : Prop :=
  v.halt.causes = u.halt.causes.put r false ∧
  (u.halt.causes.any = false ∨ v.halt.causes.any = true →
    v = { u with halt := { u.halt with causes := v.halt.causes } }) ∧
  (u.halt.causes.any = true → v.halt.causes.any = false → u.params.stationNo ∈ u.halt.holders →
    v = { u with halt := v.halt, creep := v.creep, port := v.port,
                 line := { u.line with mode := v.line.mode, slots := v.line.slots } } ∧
    (∀ m, m ∈ v.halt.holders ↔ m ≠ u.params.stationNo ∧ m ∈ u.halt.holders) ∧
    v.port = (u.report .haltOff
      (value := some (256 * u.params.stationNo + holderSum v.halt.holders : Nat))).port ∧
    (u.line.mode = .halted → v.halt.holders = [] →
      v.line.mode = .run ∧
      v.creep = if u.params.resumeCreep = 0 then none else some (u.params.resumeCreep * 1000)) ∧
    (u.line.mode ≠ .halted → u.line.mode ≠ .run → v.line.mode = u.line.mode ∧ v.creep = u.creep) ∧
    (u.line.mode = .halted → v.halt.holders ≠ [] → v.line.mode = .halted ∧ v.creep = u.creep) ∧
    (u.line.mayTransmit = true →
      v.line.slots.lineHalt.map (fun f => f.content) = some .resume ∧
      v.line.slots = { u.line.slots with lineHalt := v.line.slots.lineHalt }) ∧
    (u.line.mayTransmit = false → v.line.slots = u.line.slots))

/-! ## What a frame leaves in the peer table -/

/-- `v` has the peer table of `s` after a good frame other than a DECLARE from station `n` (R62): the entry of `n` takes the
sequence, a gap is counted, saturating, and sets a HEARD entry's consecutive count to 0; the first frame of an ABSENT entry
shows no gap (log 20); the entry's other fields and every other entry stand. -/
def State.frameTaken (s v : State) (n : Nat) (seq : Byte) : Prop :=
  (∀ m, m ≠ n → v.line.peer? m = s.line.peer? m) ∧
  (s.line.peer? n = none → v.line.peer? n = none) ∧
  ∀ p, s.line.peer? n = some p → ∃ p' : Peer, v.line.peer? n = some p' ∧
    p' = { p with lastSeq := some seq, gaps := p'.gaps, consecutive := p'.consecutive } ∧
    (p.state = .absent ∨ p.lastSeq = none ∨ p.lastSeq = some (seq - 1) →
      p'.gaps = p.gaps ∧ p'.consecutive = p.consecutive) ∧
    (∀ l, p.state ≠ .absent → p.lastSeq = some l → seq ≠ l + 1 →
      p'.gaps = min (p.gaps + 1) 65535 ∧ p'.consecutive = if p.state = .heard then 0 else p.consecutive)

/-- The silence timer once a frame has been heard: it restarts in RUN and HALTED and does not run in LISTENING (R59). -/
abbrev State.silenceHeard (s : State) : Timer := if s.line.mode = .listening then s.line.silence else some 1000

/-! ## Outputs that move steel (R23, R94, R118, R139) -/

/-- Every zone drive is off. -/
abbrev State.drivesOff (s : State) : Prop := ∀ k, driveLines (s.zoneDrive k) = (false, false, false)

/-- Both door groups are off, with their direction outputs released. -/
abbrev State.groupsOff (s : State) : Prop := ∀ g, s.groupDrive g = none

/-- No output that moves steel is on. -/
abbrev State.steelStill (s : State) : Prop := s.drivesOff ∧ s.groupsOff ∧ s.pushCmd = false

/-! ## The expiries of a millisecond -/

/-- The command of an expiry is due in the state a millisecond has left: its timer runs, has no time left, and its owner's
state gives it a meaning (R22, R26, R52, R55, R59, R63, R69, R80, R81, R119, R128, R132, R139). -/
def State.isDue (t : State) : Instr → Prop
  | .secondsTick => t.clk.subsec = 0
  | .startReconciliation => t.phase = .reconciling 0
  | .moveTimeout zone => t.started = true ∧ zone.val < t.zones.length ∧ (t.zone zone.val).timer = some 0 ∧
      t.serveClass zone.val ≠ .held ∧ t.crossingOut zone.val = false ∧ t.crossingIn zone.val = false
  | .handoverBroken => t.started = true ∧ (t.zone t.exitZone).timer = some 0 ∧ t.serveClass t.exitZone ≠ .held ∧
      t.crossingOut t.exitZone = true
  | .handoverTimeout => t.started = true ∧ (t.zone 0).timer = some 0 ∧ t.serveClass 0 ≠ .held ∧
      t.inc.state ≠ .idle ∧ t.crossingOut 0 = false
  | .offerUnanswered => t.started = true ∧ t.out.answer = some 0
  | .driveStall .near => t.started = true ∧ t.door.stallNear = some 0
  | .driveStall .far => t.started = true ∧ t.door.stallFar = some 0
  | .slabStill => t.started = true ∧ t.door.still = some 0 ∧ t.door.phase = .stopping ∧ t.door.suspended = false
  | .pairWaitExpiry => t.started = true ∧ t.door.pairTimer = some 0 ∧ t.line.mode = .run ∧
      t.door.substate = .pairWait ∧ t.doorEntry.state ≠ .fault
  | .doorTimeoutOpening => t.started = true ∧ t.cycle.timer = some 0 ∧ t.line.mode = .run ∧ t.cycle.state = .doorOpening
  | .pushTimeout => t.started = true ∧ t.cycle.timer = some 0 ∧ t.line.mode = .run ∧ t.cycle.state = .pushing
  | .barFault => t.started = true ∧ t.cycle.timer = some 0 ∧ t.line.mode = .run ∧ t.cycle.state = .retracting
  | .doorTimeoutClosing => t.started = true ∧ t.cycle.timer = some 0 ∧ t.line.mode = .run ∧ t.cycle.state = .doorClosing
  | .resumeCreepEnd => t.started = true ∧ t.creep = some 0
  | .listenHalfEnd => t.started = true ∧ t.line.windowTimer = some 0 ∧ t.line.stage = .listen
  | .countHalfEnd => t.started = true ∧ t.line.windowTimer = some 0 ∧ t.line.stage = .count
  | .declarationPeriod => t.started = true ∧ t.line.period = some 0
  | .declareChangeHoldoff => t.started = true ∧ t.line.holdoff = some 0
  | .lineSilent => t.started = true ∧ t.line.silence = some 0
  | .peerStale station => t.started = true ∧ ∃ p ∈ t.line.peers, byteOf p.station = station ∧
      (p.state = .heard ∨ p.state = .qualified) ∧ 1000 ≤ p.age.getD 0
  | _ => False

/-! ## What every step keeps -/

/-- The report queue and the banks stay within their sizes, and neither bank holds an ID twice (R102, R183). -/
def State.listsBounded (s : State) : Prop :=
  s.port.reports.length ≤ 32 ∧
  s.lists.active.length ≤ 24 ∧ (s.lists.active.map fun e => e.id).Nodup ∧
  s.lists.pendingBank.length ≤ 24 ∧ (s.lists.pendingBank.map fun e => e.id).Nodup

/-- The halt set holds members, each once; the station's own number stands in it exactly while it has an own cause; RUN
goes with an empty set and HALTED with a filled one (R89, R92, R93). Before the end of START the set and the causes are
empty, the Line Interface is UNSTARTED without an attempt, and no slab comes in (R54, R55, R75). -/
def State.haltAgrees (s : State) : Prop :=
  (s.phase ≠ .unstarted → s.params.isMember s.params.stationNo = true) ∧
  (∀ m ∈ s.halt.holders, s.params.isMember m = true) ∧ s.halt.holders.Nodup ∧
  (if s.started then (s.params.stationNo ∈ s.halt.holders ↔ s.halt.causes.any = true)
   else s.halt.holders = [] ∧ s.halt.causes.any = false ∧ s.line.mode = .unstarted ∧ s.line.attempt = none ∧
     s.inc.state = .idle) ∧
  (s.line.mode = .run → s.halt.holders = []) ∧ (s.line.mode = .halted → s.halt.holders ≠ [])

/-- The slab IDs of the hearth record, oldest position first. -/
def Hearth.ids (h : Hearth) : List Nat := h.positions.flatMap fun p => p.slabs.map fun x => x.id

/-- The pool holds at most 12 records, no ID twice, and no ID of the hearth record; the hearth record holds no ID twice,
and no charge names a slab twice (R2, R3, R137, R160). -/
def State.poolDistinct (s : State) : Prop :=
  s.store.pool.length ≤ 12 ∧ (s.store.pool.map fun r => r.id).Nodup ∧
  (∀ r ∈ s.store.pool, r.id ∉ s.hearth.ids) ∧ s.hearth.ids.Nodup ∧ s.cycle.charge.Nodup

/-- The charge of the cycle has passed the room test and has not been committed (R141, R155). -/
def Cycle.holdsRoom (c : Cycle) : Bool :=
  match c.state with
  | .doorOpening | .pushing | .limbo => true
  | _ => false

/-- The hearth record holds at most 48 positions. From START on its totals are those of its positions and within the
limits, with room kept for a charge that has passed the room test (R154, R155); before START the cycle is in IDLE or
LIMBO (R137, R138); and a START in work keeps the port in work (R176, R179). -/
def State.hearthRoomy (s : State) : Prop :=
  s.cycle.committing = false ∧
  (s.phase ≠ .unstarted → s.started = false → s.port.state = .inWork false ∨ s.port.state = .inWork true) ∧
  s.hearth.positions.length ≤ 48 ∧
  (s.cycle.holdsRoom = true → s.hearth.positions.length < 48) ∧
  (if s.phase = .unstarted then s.cycle.state = .idle ∨ s.cycle.state = .limbo
   else
    s.hearth.count = s.hearth.positions.length ∧ s.hearth.fill = fillOf s.hearth.positions ∧
    s.hearth.load = loadOf s.hearth.positions ∧
    s.hearth.fill + (if s.cycle.holdsRoom then s.cycle.pitch else 0) ≤ s.params.hearthLength ∧
    s.hearth.load + (if s.cycle.holdsRoom then s.cycle.weightSum else 0) ≤ s.params.loadCapacityKg)

end Sys2Proof.Machine
end

