-- ==== Sys2Proof/WellFormed.lean ====
section
/-! DEFINITION. The commands the connections can bring: a request fits its frame (R175, R177), a bad frame fails the
frame check (R176), a handover frame is addressed to a station (R45), and a transfer form's optional fields do not
collide with the codes of their absence (R46). exec takes every command, well-formed or not. -/

namespace Sys2Proof

/-- The payload of a request is at most 512 bytes (R175). -/
def payloadFits (n : Nat) : Bool := decide (n ≤ 512)

/-- A measured length that is present is not the code of an absent one (R46). -/
def TransferForm.measuredWf (f : TransferForm) : Bool := f.measured != some 0xFFFF

/-- A landing that is present carries an age other than the absent one's code, and a station other than 0 (R46). -/
def TransferForm.landingWf (f : TransferForm) : Bool :=
  match f.landing with
  | some (age, station) => age != 0xFFFFFFFF && station != 0
  | none => true

/-- An offer that the wire can carry (R46). -/
def Offer.wf (o : Offer) : Bool := o.form.measuredWf && o.form.landingWf

/-- A handover frame goes to one station, 1 to 8 (R45). -/
def Addressed.wf (h : Addressed) : Bool := decide (1 ≤ h.dest.toNat) && decide (h.dest.toNat ≤ 8)

/-- A list request fits its frame: 2 + 7k bytes (R177). -/
def entriesFit (es : List EntryBlock) : Bool := payloadFits (2 + 7 * es.length)

/-- A restore fits its frame: 13 + 11k bytes (R177). -/
def RestoreBlock.wf (b : RestoreBlock) : Bool := payloadFits (13 + 11 * b.slabs.length)

/-- The command that a struck switch names is one the port's frames could have asked for. -/
def SwitchCause.wf : SwitchCause → Bool
  | .appended _ entries => entriesFit entries
  | .request | .returned | .openingFault | .permitLost | .pairExpired | .slabRests .. | .slabLands _ | .moveExpired _
  | .identified .. | .faultCleared _ | .held _ | .released _ | .headSkipped | .headInserted _ | .causeLifted
  | .holderReleased _ | .estopLifted | .resumeHeard _ | .declareHeard .. | .countEnded | .reconciled => true

/-- A struck operation is one that the port's frames could have asked for, no further advanced than it is long
(R113, R159). -/
def Strike.wf : Strike → Bool
  | .between | .commitBegun | .commitAppended _ | .commitRemoving _ | .commitListed | .commitBarOut
  | .commitSwitch | .discharge .. | .remove .. => true
  | .switch cause => cause.wf
  | .restore block _ _ => block.wf
  | .clear removed _ => decide (removed ≤ 48)
  | .append _ entries appended => entriesFit entries && decide (appended ≤ entries.length)

/-- A command the connections can bring. -/
def Instr.wf : Instr → Bool
  | .powerOn | .resetRelease | .start | .startReconciliation | .restart => true
  | .resetPinLow strike | .responseFetch _ strike => strike.wf
  | .requestOverrun bytes => Machine.isRequest bytes
  | .badFrameRequest bytes => Machine.isRequest bytes && (Machine.requestOfBytes? bytes).isNone
  | .setParameter .. | .expectLanding .. | .cancelExpect _ | .identify .. | .hold _ | .release _
  | .readRecord _ => true
  | .listAppend _ entries => entriesFit entries
  | .listClearPending | .listSwitch | .listSkipHead | .listInsertHead _ | .readList .. | .confirmCharged
  | .confirmOnTable => true
  | .hearthRestore block => block.wf
  | .hearthRemove _ | .hearthClear | .hearthConfirm | .lineHalt | .lineResume | .releaseHolder _ | .clearFault _
  | .watchSet .. | .watchClear _ | .setAlertLevel _ | .readStatus | .readRange .. | .readPeers | .readEvents _ => true
  | .secondsTick | .resumeCreepEnd | .entrySensorRise .. | .entrySensorFall .. | .restSensorRise ..
  | .restSensorFall _ | .landingInputRise _ | .landingInputFall _ | .encoderPulse .. | .slabStill | .moveTimeout _
  | .handoverBroken | .handoverTimeout | .offerUnanswered | .driveStall _ | .pairWaitExpiry => true
  | .doorOpenActive | .doorOpenFall | .doorShutActive _ | .pushDoneRise _ | .barHomeActive _ | .furnPermitRise
  | .furnPermitFall | .doorTimeoutOpening | .pushTimeout | .barFault | .doorTimeoutClosing | .discharge _
  | .estopActive | .estopInactive => true
  | .frameError | .declareReceived .. | .haltReceived .. | .resumeReceived _ => true
  | .offerReceived header offer => header.wf && offer.wf
  | .acceptReceived header .. | .declineReceived header .. | .arrivedReceived header .. | .withdrawReceived header .. =>
    header.wf
  | .transmitAttemptStart _ | .collision | .attemptComplete | .listenHalfEnd | .countHalfEnd | .declarationPeriod
  | .declareChangeHoldoff | .lineSilent => true
  | .peerStale station => decide (1 ≤ station.toNat) && decide (station.toNat ≤ 8)

end Sys2Proof
end

