-- ==== Sys2Proof/Certificates/Slice0/Obligations.lean ====
section
/-! DEFINITION. The statements for the provers, one definition each, in the order of OBLIGATIONS.json. Where a statement
is about a command whose step goes on with what follows from it, it gives the state the command's own effect leaves and
says that the step ends as `finish` of it; FollowOnKeepsItsFrame says what `finish` leaves alone. -/

open Sys2Proof Sys2Proof.Machine

/-! ## Steps and resets -/

/-- Step takes the command at the front of the queue and runs it with the queue's rest. -/
def Obligations.StepRunsTheFrontCommand : Prop :=
  ∀ (s : State) (c : Instr) (rest : List Instr),
    step { s with pending := c :: rest } = exec c { s with pending := rest }

/-- On an empty queue a step is one millisecond (the model's choice, log 1): the timebase and the millisecond within the
second advance, START's wait counts down, the near log drops its pulses older than FILTER_MS, and at a started station
every running timer counts down by one, a frozen one standing, and the peers' ages rise; the expiries that are then due,
and the tick at the end of a second, are all that joins the queue; nothing else changes. -/
def Obligations.IdleStepIsOneMillisecond : Prop :=
  ∀ s : State, s.pending = [] → ∃ t, step s = .next t ∧
    t = { s with clk := { s.clk with millis := s.clk.millis + 1
                                     subsec := if 999 ≤ s.clk.subsec then 0 else s.clk.subsec + 1 }
                 phase := t.phase, zones := t.zones, creep := t.creep, line := t.line, out := t.out, door := t.door
                 cycle := t.cycle, pending := t.pending } ∧
    (∀ n, s.phase = .reconciling n → t.phase = .reconciling (n - 1)) ∧
    ((∀ n, s.phase ≠ .reconciling n) → t.phase = s.phase) ∧
    t.door.nearLog =
      s.door.nearLog.filter (fun e => decide ((s.clk.millis + 1 - e.1).toNat ≤ s.params.filterMs)) ∧
    (s.started = false →
      t.zones = s.zones ∧ t.creep = s.creep ∧ t.line = s.line ∧ t.out = s.out ∧ t.cycle = s.cycle ∧
      t.door = { s.door with nearLog := t.door.nearLog }) ∧
    (s.started = true →
      t.zones.length = s.zones.length ∧
      (∀ k, t.zone k = { s.zone k with
        timer := if s.serveClass k = .held then (s.zone k).timer else (s.zone k).timer.map (· - 1) }) ∧
      t.creep = s.creep.map (· - 1) ∧ t.out = { s.out with answer := s.out.answer.map (· - 1) } ∧
      t.line = { s.line with
        windowTimer := s.line.windowTimer.map (· - 1), period := s.line.period.map (· - 1)
        holdoff := s.line.holdoff.map (· - 1), silence := s.line.silence.map (· - 1)
        peers := s.line.peers.map fun p => ({ p with age := p.age.map fun a => min (a + 1) 65535 } : Peer) } ∧
      t.door = { s.door with
        nearLog := t.door.nearLog
        pairTimer := if s.line.mode = .run ∧ s.door.substate = .pairWait then s.door.pairTimer.map (· - 1)
          else s.door.pairTimer
        stallNear := s.door.stallNear.map (· - 1), stallFar := s.door.stallFar.map (· - 1)
        still := s.door.still.map (· - 1) } ∧
      t.cycle = { s.cycle with
        timer := if s.line.mode = .run then s.cycle.timer.map (· - 1) else s.cycle.timer }) ∧
    (∀ c : Instr, c ∈ t.pending ↔ t.isDue c)

/-- POWER_ON gives every block its value after a cold reset, with the counters at 0 (R180, and the reset table of each
chapter: R15, R19, R47, R50, R54, R60, R66, R67, R89, R91, R103, R115, R137, R154, R165, R183, R185); the pins, RESET#, the
queue and the index of the next free value are the model's own (log 3, log 10). -/
def Obligations.PowerOnGivesTheColdResetValues : Prop :=
  ∀ s : State, ∃ t, exec .powerOn s = .next t ∧
    t.clk.seconds = 0 ∧ t.clk.millis = 0 ∧ t.phase = .unstarted ∧ t.lastReset = .cold ∧
    t.params = Params.defaults ∧ t.store.pool = [] ∧ t.store.watch1 = none ∧ t.store.watch2 = none ∧
    t.zones.length = t.params.zoneCount ∧
    (∀ z ∈ t.zones, z.state = .free ∧ z.occ = [] ∧ z.departing = false ∧ z.timer = none ∧ z.lastTransit = none ∧
      z.verified = false) ∧
    t.line.mode = .unstarted ∧ t.line.stage = .notStarted ∧ t.line.txSeq = 0 ∧ t.line.peers = [] ∧
    t.line.lineErrors = 0 ∧ t.line.foreign = 0 ∧ t.line.collisions = 0 ∧ t.line.consecutive = 0 ∧
    t.line.attempt = none ∧
    t.out.state = .idle ∧ t.out.tagCounter = 0 ∧ t.out.answer = none ∧ t.out.offerBar = false ∧
    t.out.lastDecline = none ∧ t.inc.state = .idle ∧
    t.halt.holders = [] ∧ t.halt.causes.any = false ∧
    t.lists.active = [] ∧ t.lists.pendingBank = [] ∧ t.lists.suspect = false ∧ t.lists.deferred = false ∧
    t.door.substate = .empty ∧ t.door.tracks = [] ∧ t.door.offCentre = false ∧ t.door.pairTimer = none ∧
    t.door.lastError = none ∧
    t.cycle.state = .idle ∧ t.cycle.charge = [] ∧ t.cycle.stroke = none ∧ t.cycle.timer = none ∧
    t.cycle.committing = false ∧
    t.hearth.positions = [] ∧ t.hearth.count = 0 ∧ t.hearth.fill = 0 ∧ t.hearth.load = 0 ∧
    t.hearth.nextNumber = 1 ∧ t.hearth.integrity = .unknown ∧
    t.pace.ring = [] ∧ t.pace.last = none ∧ t.pace.davg = t.params.nominalInterval ∧ t.pace.stable = false ∧
    t.pace.dreq = 0 ∧ t.pace.saturated = false ∧ t.pace.linePace = 0 ∧ t.pace.source = t.params.stationNo ∧
    t.pace.reported = 0 ∧
    t.port.state = .idle ∧ t.port.reports = [] ∧ t.port.nextNumber = 0 ∧ t.port.alertLevel = 7 ∧
    t.steelStill ∧ t.pins = s.pins ∧ t.resetLow = s.resetLow ∧ t.pending = s.pending ∧ t.freeIx = s.freeIx

/-- RESET# low is a warm reset: whatever it strikes, the port, the configuration, the line, the contexts, the halt set
and the outputs take their reset values and the clock runs on (R180); striking between operations it leaves the pool,
the zone map, the lists, the hearth, the ring and the door zone context as the chapters' reset tables retain them, and
the cycle as R138 gives it. RESET# rising changes nothing else. That the struck operation is the command's operand is the
model's choice (log 9), as are pins that keep their level through a reset and RESET# already low doing nothing (log 3). -/
def Obligations.ResetPinGivesAWarmReset : Prop :=
  (∀ (s : State) (strike : Strike), s.resetLow = false → ∃ t, exec (.resetPinLow strike) s = .next t ∧
    t.resetLow = true ∧ t.phase = .unstarted ∧ t.lastReset = .warm ∧ t.clk = s.clk ∧ t.pins = s.pins ∧
    t.params = Params.defaults ∧ t.port = {} ∧ t.line = {} ∧ t.out = {} ∧ t.inc = {} ∧ t.halt = {} ∧
    t.creep = none ∧ t.store.watch1 = none ∧ t.store.watch2 = none ∧ t.lists.deferred = false ∧
    t.cycle.timer = none ∧ t.pace.last = none ∧ t.steelStill ∧ t.pending = s.pending) ∧
  (∀ s : State, s.resetLow = false → ∃ t, exec (.resetPinLow .between) s = .next t ∧
    t.store.pool = s.store.pool ∧ t.lists = { s.lists with deferred := false } ∧ t.hearth = s.hearth ∧
    t.zones = s.zones.map (fun z =>
      { z with timer := none, verified := false, runOnGranted := false, restPassed := false, claim := none,
               heldReported := false }) ∧
    t.door.substate = s.door.substate ∧ t.door.tracks = s.door.tracks ∧ t.door.offCentre = s.door.offCentre ∧
    t.door.givenRoles = s.door.givenRoles ∧ t.door.pairTimer = s.door.pairTimer ∧ t.door.lastError = s.door.lastError ∧ t.door.stallNear = none ∧
    t.door.stallFar = none ∧
    t.pace.ring = s.pace.ring ∧ t.pace.dreq = s.pace.dreq ∧ t.pace.linePace = s.pace.linePace ∧
    (s.cycle.committing = false → s.cycle.state = .pushing →
      t.cycle.state = .limbo ∧ t.cycle.limbo = some .resetInPush ∧ t.cycle.charge = s.cycle.charge ∧
      t.cycle.stroke = s.cycle.stroke ∧ t.cycle.offCentre = s.cycle.offCentre ∧ t.cycle.pitch = s.cycle.pitch ∧
      t.cycle.weightSum = s.cycle.weightSum) ∧
    (s.cycle.committing = false → s.cycle.state = .limbo →
      t.cycle.state = .limbo ∧ t.cycle.limbo = s.cycle.limbo ∧ t.cycle.charge = s.cycle.charge ∧
      t.cycle.stroke = s.cycle.stroke ∧ t.cycle.offCentre = s.cycle.offCentre) ∧
    (s.cycle.committing = true ∨ (s.cycle.state ≠ .pushing ∧ s.cycle.state ≠ .limbo) → t.cycle.state = .idle)) ∧
  (∀ (s : State) (strike : Strike), s.resetLow = true → exec (.resetPinLow strike) s = .next s) ∧
  (∀ s : State, exec .resetRelease s = .next { s with resetLow := false })

/-- A warm reset that strikes an update of the hearth record leaves it SUSPECT, with the position of the update appended
or removed whole or not at all; one that strikes between updates leaves the record and its integrity as they stood
(R138, R159). A commit that CONFIRM_CHARGED began leaves the door zone OCCUPIED, as R150 has it before the commit. How far
the update had gone is the command's operand (log 9). -/
def Obligations.StruckHearthUpdateIsSuspect : Prop :=
  ∀ s : State, s.resetLow = false →
    (s.started = true →
        (s.cycle.state = .pushing ∧ s.line.mode = .run) ∨ (s.cycle.state = .limbo ∧ s.port.state = .idle) →
      (∃ t, exec (.resetPinLow .commitBegun) s = .next t ∧ t.hearth.integrity = .suspect ∧
        t.hearth.positions = s.hearth.positions ∧ t.cycle.state = .idle) ∧
      (∀ strike ∈ [Strike.commitAppended true, .commitAppended false, .commitRemoving true, .commitRemoving false,
          .commitListed, .commitBarOut, .commitSwitch],
        ∃ t, exec (.resetPinLow strike) s = .next t ∧ t.hearth.integrity = .suspect ∧
          t.hearth.positions = s.hearth.positions ++ [s.chargePosition] ∧ t.cycle.state = .idle ∧
          (∀ r ∈ t.store.pool, r.id ∉ s.cycle.charge) ∧
          (s.cycle.state = .limbo → s.params.doorZone < s.zones.length →
            (t.zone s.params.doorZone).state = .occupied))) ∧
    (s.phase ≠ .unstarted → s.params.hasFurnace = true → s.hearth.positions ≠ [] → ∀ removed totals : Bool,
      ∃ t, exec (.resetPinLow (.discharge removed totals)) s = .next t ∧ t.hearth.integrity = .suspect ∧
        t.hearth.positions = if removed then s.hearth.positions.drop 1 else s.hearth.positions) ∧
    (s.port.state = .idle → s.editsRefused = false →
      (∀ (block : RestoreBlock) (p : Position) (appended totals : Bool),
        restorePosition? block s.now s.hearth.nextNumber = some p → s.hearth.positions.length < 48 →
        s.restoreDuplicate (p.slabs.map fun x => x.id) = false →
        (s.started = true → s.hearth.hasRoom s.params p.pitch p.weightSum = true) →
        ∃ t, exec (.resetPinLow (.restore block appended totals)) s = .next t ∧ t.hearth.integrity = .suspect ∧
          t.hearth.positions = if appended then s.hearth.positions ++ [p] else s.hearth.positions) ∧
      (∀ (i : Byte) (removed totals : Bool), i.toNat < s.hearth.positions.length →
        ∃ t, exec (.resetPinLow (.remove i removed totals)) s = .next t ∧ t.hearth.integrity = .suspect ∧
          t.hearth.positions = if removed then s.hearth.positions.eraseIdx i.toNat else s.hearth.positions) ∧
      (∀ (n : Nat) (totals : Bool),
        ∃ t, exec (.resetPinLow (.clear n totals)) s = .next t ∧ t.hearth.integrity = .suspect ∧
          t.hearth.positions = s.hearth.positions.drop n)) ∧
    (∃ t, exec (.resetPinLow .between) s = .next t ∧ t.hearth = s.hearth)

/-- A warm reset that strikes an update of a bank leaves the lists SUSPECT: an append of which an entry was taken keeps
the entries it had made, a pair's removal of which ACTIVE holds an entry the first or neither, and a switch that its step
applies two banks of entries of the banks it was applied to, at most 24 in each and no ID repeated, which entries being
free (log 10); one that strikes between updates, and one naming a switch that nothing brings about, leaves the lists as
they stood, but for the deferred switch (R103, R113). A switch begins where nothing defers it: at once for LIST_SWITCH, and
for a deferred one where CONFIRM_ON_TABLE, the pair wait's expiry or a passing slab's rest in the approach zone has ended
the hold (R109, R123). The struck operation is the command's operand (log 9). -/
def Obligations.StruckListUpdateIsSuspect : Prop :=
  ∀ s : State, s.resetLow = false →
    (s.port.state = .idle → ∀ (bank : Byte) (b : Bank) (blocks : List EntryBlock) (es : List ListEntry) (n : Nat),
      Bank.ofCode? bank.toNat = some b → entries? blocks = some es → es.length ≤ 24 →
      (∀ e rest, es = e :: rest → appendRefusal (s.lists.bank b) e = none →
        ∃ t, exec (.resetPinLow (.append bank blocks n)) s = .next t ∧ t.lists.suspect = true ∧
          t.lists.bank b = (appendAll (s.lists.bank b) (es.take n)).1) ∧
      (∀ e rest, es = e :: rest → appendRefusal (s.lists.bank b) e ≠ none →
        exec (.resetPinLow (.append bank blocks n)) s = exec (.resetPinLow .between) s)) ∧
    (s.started = true →
        (s.cycle.state = .pushing ∧ s.line.mode = .run) ∨ (s.cycle.state = .limbo ∧ s.port.state = .idle) →
      ∀ (a c : Nat) (first : Bool), s.cycle.charge = [a, c] →
        ∃ t, exec (.resetPinLow (.commitRemoving first)) s = .next t ∧
          (t.lists.suspect = true ↔ s.lists.suspect = true ∨ ∃ e ∈ s.lists.active, e.id = a ∨ e.id = c) ∧
          t.lists.pendingBank = s.lists.pendingBank ∧
          t.lists.active = if first then s.lists.active.filter (fun e => e.id != a) else s.lists.active) ∧
    (∀ cause u, s.beforeSwitch cause = some u → u.lists.deferred = true ∧ u.switchDeferred = false ∧
      (u.switchFits = true →
        ∃ t, exec (.resetPinLow (.switch cause)) s = .next t ∧ t.lists.suspect = true ∧ t.lists.deferred = false ∧
          (∀ bank ∈ [t.lists.active, t.lists.pendingBank],
            bank.length ≤ 24 ∧ (bank.map fun e => e.id).Nodup ∧
            ∀ e ∈ bank, e ∈ u.lists.active ∨ e ∈ u.lists.pendingBank) ∧
          t.store.pool = u.store.pool ∧ t.door.substate = u.door.substate ∧ t.door.tracks = u.door.tracks)) ∧
    (∀ cause, (∀ u, s.beforeSwitch cause = some u → u.switchFits = false) →
      exec (.resetPinLow (.switch cause)) s = exec (.resetPinLow .between) s) ∧
    (s.port.state = .idle → s.lists.deferred = false → s.switchDeferred = false →
      s.beforeSwitch .request = some { s with lists := { s.lists with deferred := true } }) ∧
    (s.port.state = .idle → s.started = true → s.cycle.state = .limbo → s.pins.barHome = true →
      s.lists.deferred = true →
      ∃ u, s.beforeSwitch .returned = some u ∧ u.cycle = { setpoint := s.cycle.setpoint } ∧
        u.door.substate = .positioned ∧ u.lists = s.lists) ∧
    (s.started = true → s.lists.deferred = true → s.cycle.holdsLists = false → s.door.substate = .pairWait →
      (s.line.mode = .run → s.door.pairTimer = some 0 → s.doorEntry.state ≠ .fault → s.occupantTracks ≠ [] →
        ∃ u, s.beforeSwitch .pairExpired = some u ∧ u.door.substate = .positioned ∧ u.door.offCentre = true ∧
          u.lists = s.lists) ∧
      (∀ (zone : ZoneIx) (stamp : Word) (id : Nat) (r : Record), s.params.hasFurnace = true →
        zone.val = s.approach → zone.val < s.params.doorZone → zone.val < s.zones.length →
        zone.val < s.pins.zones.length →
        (s.zonePins zone.val).rest = false → (s.zone zone.val).state = .receiving →
        (s.zone zone.val).handleMoved = true → s.runOn zone.val = false → (s.zone zone.val).verified = true →
        (s.zone zone.val).occ = [id] → s.record? id = some r → r.dest ≠ s.params.stationNo →
        s.occupantTracks ≠ [] →
        ∃ u, s.beforeSwitch (.slabRests zone stamp) = some u ∧ u.door.substate = .positioned ∧
          (u.zone zone.val).state = .occupied ∧ u.lists = s.lists)) ∧
    (s.started = true →
        (s.cycle.state = .pushing ∧ s.line.mode = .run) ∨ (s.cycle.state = .limbo ∧ s.port.state = .idle) →
      s.lists.deferred = true → (s.commitPart true 2 true).switchFits = true →
      ∃ t, exec (.resetPinLow .commitSwitch) s = .next t ∧ t.lists.suspect = true ∧
        (∀ bank ∈ [t.lists.active, t.lists.pendingBank],
          bank.length ≤ 24 ∧ (bank.map fun e => e.id).Nodup ∧
          ∀ e ∈ bank, (e ∈ s.lists.active ∧ e.id ∉ s.cycle.charge.take 2) ∨ e ∈ s.lists.pendingBank)) ∧
    (∃ t, exec (.resetPinLow .between) s = .next t ∧ t.lists = { s.lists with deferred := false })

/-! ## The control port -/

/-- Every request that is taken is answered in its step, with no overrun, but for a START that is taken, which stays in
work until reconciliation; every request that reaches a port in work or answered is discarded with the OVERRUN flag set
and nothing else changed but MISO; and a request that fails the frame check is answered BAD_FRAME (R175, R176). -/
def Obligations.RequestsAreAnsweredOrOverrun : Prop :=
  (∀ (c : Instr) (frame : List Byte) (s : State), requestBytes c = some frame → s.portFree →
    ∃ t, exec c s = .next t ∧ t.port.miso = quietMiso frame.length ∧
      ((∃ r, t.port.state = .answered r ∧ r.overrun = false) ∨ (c = .start ∧ t.port.state = .inWork false))) ∧
  (∀ (c : Instr) (frame : List Byte) (s : State), requestBytes c = some frame → s.resetLow = false →
    s.port.state ≠ .idle →
    exec c s = .next (s.modPort fun p => { p with miso := quietMiso frame.length, state := p.state.overrun })) ∧
  (∀ (bytes : List Byte) (s : State), isRequest bytes = true → s.resetLow = false → s.port.state ≠ .idle →
    exec (.requestOverrun bytes) s =
      .next (s.modPort fun p => { p with miso := quietMiso bytes.length, state := p.state.overrun })) ∧
  (∀ (bytes : List Byte) (s : State), isRequest bytes = true → requestOfBytes? bytes = none → s.portFree →
    exec (.badFrameRequest bytes) s = replied s bytes.length { status := .badFrame }) ∧
  (∀ bytes : List Byte, bytes.length < 3 → requestOfBytes? bytes = none) ∧
  (∀ (code n0 n1 : Byte) (payload : List Byte), 512 < (halfOf n0 n1).toNat ∨ payload.length ≠ (halfOf n0 n1).toNat →
    requestOfBytes? (code :: n0 :: n1 :: payload) = none) ∧
  (∀ (code n0 n1 : Byte) (payload : List Byte), code = 0 ∨ 0x20 < code.toNat →
    requestOfBytes? (code :: n0 :: n1 :: payload) = none)

/-- A fetch clocks out the held response and FFh around it, and drops it once its last byte has been clocked; one that
ends earlier leaves it held, and one that finds none clocks out BUSY. RESTART is answered OK, and the warm reset strikes
when the fetch that reads that response ends (R175, R176, R180). -/
def Obligations.ResponseFetchAndRestart : Prop :=
  (∀ (s : State) (r : Response) (clocked : Nat) (strike : Strike), s.resetLow = false →
    s.port.state = .answered r → s.port.restartPending = false → (responseBytes r).length ≤ clocked →
    exec (.responseFetch clocked strike) s = .next (s.modPort fun p =>
      { p with state := .idle,
               miso := [0xFF] ++ responseBytes r ++ List.replicate (clocked - (responseBytes r).length) 0xFF })) ∧
  (∀ (s : State) (r : Response) (clocked : Nat) (strike : Strike), s.resetLow = false →
    s.port.state = .answered r → clocked < (responseBytes r).length →
    exec (.responseFetch clocked strike) s =
      .next (s.modPort fun p => { p with miso := [0xFF] ++ (responseBytes r).take clocked })) ∧
  (∀ (s : State) (clocked : Nat) (strike : Strike), s.resetLow = false → (∀ r, s.port.state ≠ .answered r) →
    exec (.responseFetch clocked strike) s = .next (s.modPort fun p => { p with miso := fetchMiso clocked .busy })) ∧
  (∀ s : State, s.portFree →
    exec .restart s = .next (((s.taken 3).modPort fun p => { p with restartPending := true }).answer .done)) ∧
  (∀ (s : State) (r : Response) (clocked : Nat) (strike : Strike), s.resetLow = false →
    s.port.state = .answered r → s.port.restartPending = true → (responseBytes r).length ≤ clocked →
    ∃ t, exec (.responseFetch clocked strike) s = .next t ∧ t.phase = .unstarted ∧ t.lastReset = .warm ∧
      t.params = Params.defaults ∧ t.line = {} ∧ t.halt = {} ∧ t.clk = s.clk ∧ t.resetLow = false ∧
      t.port.state = .idle ∧ t.port.restartPending = false ∧ t.port.reports = [] ∧ t.port.nextNumber = 0 ∧
      t.port.alertLevel = 7)

/-- SET_PARAMETER is refused LOCKED once started and RANGE for an id or a value outside the table; otherwise the value
replaces the parameter's, and that parameter alone reads differently (R178). -/
def Obligations.SetParameterReplacesOneValue : Prop :=
  (∀ (s : State) (id : Byte) (value : Word), s.portFree →
    (s.phase ≠ .unstarted → exec (.setParameter id value) s = replied s 8 (.refuse .locked)) ∧
    (s.phase = .unstarted → id.toNat = 0 ∨ 50 < id.toNat →
      exec (.setParameter id value) s = replied s 8 (.refuse .range)) ∧
    (∀ row, s.phase = .unstarted → paramRow? id.toNat = some row →
      (row.lo ≤ value.toNat → value.toNat ≤ row.hi →
        exec (.setParameter id value) s =
          .next ({ s.taken 8 with params := s.params.put id.toNat value.toNat }.answer .done)) ∧
      (value.toNat < row.lo ∨ row.hi < value.toNat →
        exec (.setParameter id value) s = replied s 8 (.refuse .range)))) ∧
  (∀ (p : Params) (id j value : Nat), p.values.length = 50 → 1 ≤ id → id ≤ 50 → 1 ≤ j →
    (p.put id value).values.length = 50 ∧
    (p.put id value).get j = if j = id then value else p.get j)

/-- START is refused MODE once started; the first failing test refuses it with the reason and the parameter it names and
nothing else changed; the tests all pass exactly when the conditions of R179 hold; and a START that is taken latches the
configuration, drops every INCOMING record, recomputes the base classes and the hearth's totals, and stays in work
(R15, R163, R179). That a START refused MODE carries no byte is log 83. -/
def Obligations.StartLatchesTheConfiguration : Prop :=
  (∀ s : State, s.portFree → s.phase ≠ .unstarted → exec .start s = replied s 3 (.refuse .mode)) ∧
  (∀ (s : State) (reason : Reason) (id : Nat), s.portFree → s.phase = .unstarted →
    firstFailure s.startTests = some (reason, id) →
    exec .start s = replied s 3 { status := .refused, reason := reason, payload := u1 id }) ∧
  (∀ s : State, firstFailure s.startTests = none ↔
    s.params.isMember s.params.stationNo = true ∧
    (s.params.hasFurnace = true → s.params.doorZone < s.params.zoneCount) ∧
    (s.params.hasFurnace = true → s.params.landing s.params.doorZone = false) ∧
    s.params.heating .warm ≤ s.params.heating .cold ∧ s.params.heating .hot ≤ s.params.heating .warm ∧
    (s.params.hasFurnace = true → (s.params.doorWidth + 1) / 2 ≤ s.params.doorAxis) ∧
    (s.params.hasFurnace = true → s.params.doorAxis + (s.params.doorWidth + 1) / 2 ≤ s.params.doorLength) ∧
    (s.params.hasFurnace = true ∨ s.hearth.positions = []) ∧
    fillOf s.hearth.positions + (if s.cycle.state = .limbo then s.cycle.pitch else 0) ≤ s.params.hearthLength ∧
    loadOf s.hearth.positions + (if s.cycle.state = .limbo then s.cycle.weightSum else 0) ≤
      s.params.loadCapacityKg) ∧
  (∀ s : State, s.portFree → s.phase = .unstarted → firstFailure s.startTests = none →
    ∃ t, exec .start s = .next t ∧ t.phase = .reconciling s.params.filterMs ∧ t.port.state = .inWork false ∧
      t.params = s.params ∧ t.hearth = s.hearth.recount ∧ t.lists = s.lists ∧ t.halt = s.halt ∧ t.line = s.line ∧
      t.clk = s.clk ∧ t.pace.linePace = t.pace.reported ∧
      (∀ r ∈ t.store.pool, r.baseClass = baseClassOf r.hostClass r.weight s.params.heavyKg) ∧
      (s.poolDistinct → s.haltAgrees →
        (∀ r ∈ t.store.pool, r.status ≠ .incoming) ∧
        (t.store.pool.map fun r => r.id) = (s.store.pool.filter fun r => r.status != .incoming).map (fun r => r.id) ∧
        t.steelStill))

/-- The end of START, once no wait is left (log 2): zones beyond the new exit zone are discarded, each other zone is
decided from its retained entry and its presence as R38's table gives it, zones that both restart in motion name each
other from the upstream end (log 25), and every zone is verified; a fault left standing and an active ESTOP are own causes;
the Line Interface is LISTENING with every peer ABSENT; the response OK is built with the overruns that came meanwhile;
the pace is computed again here (log 23), the pace last reported being the line pace with no PACE_CHANGED queued; and the
hearth and the lists stand. Zone clauses of the whole step hold while no slab comes in, as before the end of START none does
(EveryStepKeepsTheHaltSet); an EXPECTING zone without landing permission is log 56's
(R38, R39, R55, R60, R91, R165, R179). -/
def Obligations.ReconciliationEndsStart : Prop :=
  (∀ s : State, s.phase ≠ .reconciling 0 → exec .startReconciliation s = .next s) ∧
  (∀ s : State, s.phase = .reconciling 0 → ∃ r v,
    exec .startReconciliation s = .next ((finish s v).answer .done) ∧
    r = (List.range s.discardZones.zones.length).foldl State.reconcileZone s.discardZones ∧
    v.phase = .started ∧ v.line.mode = .listening ∧
    v.line.peers = s.params.others.map (fun m => ({ station := m } : Peer)) ∧
    (s.params.others = [] → v.line.stage = .passed ∧ v.line.declaring = true) ∧
    (s.params.others ≠ [] → v.line.stage = .listen ∧ v.line.windowTimer = some 1000) ∧
    (∀ z ∈ v.zones, z.verified = true) ∧ v.zones.length = min s.zones.length s.params.zoneCount ∧
    (s.pins.estop = true → v.halt.causes.estop = true) ∧
    (∀ k partner, (r.zone k).state = .fault →
      ((r.zone k).fault = some ⟨.landingConflict, partner⟩ → v.halt.causes.landingConflict = true) ∧
      ((r.zone k).fault = some ⟨.liftedInMotion, partner⟩ → v.halt.causes.liftedInMotion = true)) ∧
    v.pace.reported = v.pace.linePace ∧
    (v.port.reports.filter fun x => x.kind == .paceChanged).length =
      (s.port.reports.filter fun x => x.kind == .paceChanged).length ∧
    v.hearth = s.hearth ∧ v.lists = s.lists ∧ v.params = s.params ∧ v.port.state = s.port.state ∧ v.clk = s.clk ∧
    (s.inc.state = .idle →
      v.store.pool.map (fun x => (x.id, x.dest, x.status)) = r.store.pool.map (fun x => (x.id, x.dest, x.status)) ∧
      ∀ k, s.isDoor k = false ∨ (r.zone k).state = .fault →
        (v.zone k).state = (r.zone k).state ∧ (v.zone k).occ = (r.zone k).occ) ∧
    (∀ moving : Nat → Prop,
      (∀ k, moving k ↔ k < min s.zones.length s.params.zoneCount ∧
        (s.zone k).state ∈ [.reserved, .receiving, .sending] ∧ s.presence k = true) →
      ∀ k, moving k → k = 0 ∨ ¬ moving (k - 1) →
        (moving (k + 1) →
          (v.zone k).fault = some ⟨.restartInMotion, some (k + 1)⟩ ∧
          (v.zone (k + 1)).fault = some ⟨.restartInMotion, some k⟩) ∧
        (¬ moving (k + 1) → (v.zone k).fault = some ⟨.restartInMotion, none⟩))) ∧
  (∀ s : State,
    s.discardZones = { s with store := s.discardZones.store, zones := s.discardZones.zones, door := s.discardZones.door
                              port := s.discardZones.port } ∧
    s.discardZones.zones.length = min s.zones.length s.params.zoneCount ∧
    (∀ k, k < s.params.zoneCount → (s.discardZones.zone k).state = (s.zone k).state) ∧
    (∀ x, x ∈ s.discardZones.store.pool ↔ x ∈ s.store.pool ∧
      ∀ j, s.params.zoneCount ≤ j → j < s.zones.length → x.id ∉ (s.zone j).occ ∧ (s.zone j).expected ≠ some x.id) ∧
    s.discardZones.port =
      ((((List.range s.zones.length).filter fun j => decide (s.params.zoneCount ≤ j)).flatMap fun j =>
        ((s.zone j).occ ++ (s.zone j).expected.toList).map fun x => (j, x)).foldl
          (fun (t : State) p => t.report .slabLost (some p.1) (some p.2)) s).port) ∧
  (∀ (s : State) (k : Nat), k < s.zones.length → ∃ v, s.reconcileZone k = v ∧
    v = { s with store := v.store, zones := v.zones, door := v.door, port := v.port } ∧
    (∀ j, j ≠ k → (v.zone j).state = (s.zone j).state ∧ (v.zone j).fault = (s.zone j).fault) ∧
    ((s.zone k).state = .occupied → (s.zone k).occ ≠ [] → s.presence k = true →
      v = { s with zones := v.zones } ∧ (v.zone k).state = .occupied ∧ (v.zone k).departing = false ∧
      (v.zone k).occ = (s.zone k).occ) ∧
    ((s.zone k).state = .free ∨ (s.zone k).state = .unknown ∨ ((s.zone k).state = .occupied ∧ (s.zone k).occ = []) →
      v.store = s.store ∧
      (s.presence k = true → (v.zone k).state = .unknown ∧
        v.port = if (s.zone k).state = .unknown then s.port else (s.report .unknownPresence (some k)).port) ∧
      (s.presence k = false → (v.zone k).state = .free ∧ v.port = s.port)) ∧
    ((s.zone k).state ∈ [.reserved, .receiving, .sending] → s.presence k = true →
      v = { s with zones := v.zones } ∧ (v.zone k).state = .fault ∧
      (v.zone k).fault = some ⟨.restartInMotion, none⟩ ∧ (v.zone k).occ = (s.zone k).occ) ∧
    ((s.zone k).state ∈ [.reserved, .receiving, .sending] ∨ ((s.zone k).state = .occupied ∧ (s.zone k).occ ≠ []) →
      s.presence k = false →
      (v.zone k).state = .free ∧ (v.zone k).occ = [] ∧
      v.store.pool = s.store.pool.filter (fun x => !(s.zone k).occ.contains x.id) ∧
      v.port = ((s.zone k).occ.foldl (fun (t : State) x => t.report .slabLost (some k) (some x)) s).port) ∧
    ((s.zone k).state = .fault → v = s) ∧
    (∀ id, (s.zone k).state = .expecting → (s.zone k).expected = some id →
      ((s.zonePins k).landing = true → (s.zone k).landing = true →
        (v.zone k).state = .occupied ∧ (v.zone k).departing = false ∧ (v.zone k).occ = [id] ∧
        (v.zone k).expected = none ∧
        (∀ x, s.record? id = some x → ∃ y, v.record? id = some y ∧ y.status = .live ∧
          y.landing = some (signedStamp s.now, s.params.stationNo) ∧ y.dest = x.dest) ∧
        (s.port.reports.length < 32 →
          ∃ p, v.port.reports[s.port.reports.length]? = some p ∧ p.kind = .landed ∧ p.zone = some k ∧
            p.slab = some id)) ∧
      ((s.zonePins k).landing = false ∨ (s.zone k).landing = false →
        v.store.pool = s.store.pool.filter (fun x => x.id != id) ∧
        (v.zone k).state = (if s.presence k then .unknown else .free) ∧
        v.port = (if s.presence k then
            (s.report .slabLost (some k) (some id)).report .unknownPresence (some k)
          else s.report .slabLost (some k) (some id)).port)))

/-- WATCH_SET writes its slot, refused RANGE for a slot other than 1 or 2 or an ID of 0 and DUPLICATE for an ID of the
other slot; WATCH_CLEAR empties its slot; and a slot keeps its ID through every other command but a reset, which empties
both (R13). -/
def Obligations.WatchSlotsChangeOnlyByTheirCommands : Prop :=
  (∀ (s : State) (slot : Byte) (id : Word), s.portFree →
    (id = 0 ∨ (slot ≠ 1 ∧ slot ≠ 2) → exec (.watchSet slot id) s = replied s 8 (.refuse .range)) ∧
    (id ≠ 0 → slot = 1 → s.store.watch2 = some id.toNat →
      exec (.watchSet slot id) s = replied s 8 (.refuse .duplicate)) ∧
    (id ≠ 0 → slot = 2 → s.store.watch1 = some id.toNat →
      exec (.watchSet slot id) s = replied s 8 (.refuse .duplicate)) ∧
    (id ≠ 0 → slot = 1 → s.store.watch2 ≠ some id.toNat →
      exec (.watchSet slot id) s =
        .next ({ s.taken 8 with store := { s.store with watch1 := some id.toNat } }.answer .done)) ∧
    (id ≠ 0 → slot = 2 → s.store.watch1 ≠ some id.toNat →
      exec (.watchSet slot id) s =
        .next ({ s.taken 8 with store := { s.store with watch2 := some id.toNat } }.answer .done))) ∧
  (∀ s : State, s.portFree →
    exec (.watchClear 1) s = .next ({ s.taken 4 with store := { s.store with watch1 := none } }.answer .done) ∧
    exec (.watchClear 2) s = .next ({ s.taken 4 with store := { s.store with watch2 := none } }.answer .done)) ∧
  (∀ (c : Instr) (s t : State), exec c s = .next t →
    (∀ slot id, c ≠ .watchSet slot id) → (∀ slot, c ≠ .watchClear slot) → c ≠ .powerOn →
    (∀ strike, c ≠ .resetPinLow strike) → (∀ clocked strike, c ≠ .responseFetch clocked strike) →
    t.store.watch1 = s.store.watch1 ∧ t.store.watch2 = s.store.watch2) ∧
  (∀ (s t : State) (clocked : Nat) (strike : Strike), exec (.responseFetch clocked strike) s = .next t →
    s.port.restartPending = false → t.store.watch1 = s.store.watch1 ∧ t.store.watch2 = s.store.watch2) ∧
  (∀ s : State, ∃ t, exec .powerOn s = .next t ∧ t.store.watch1 = none ∧ t.store.watch2 = none) ∧
  (∀ (s : State) (strike : Strike), s.resetLow = false →
    ∃ t, exec (.resetPinLow strike) s = .next t ∧ t.store.watch1 = none ∧ t.store.watch2 = none) ∧
  (∀ (s : State) (r : Response) (clocked : Nat) (strike : Strike), s.resetLow = false →
    s.port.state = .answered r → s.port.restartPending = true → (responseBytes r).length ≤ clocked →
    ∃ t, exec (.responseFetch clocked strike) s = .next t ∧ t.store.watch1 = none ∧ t.store.watch2 = none)

/-- SET_ALERT_LEVEL sets the level, 0 to 7, and refuses any other value RANGE; the level is 7 after both resets; ALERT# is
driven low exactly while the queue holds a report whose priority exceeds the level, never at level 7, and a report that
is discarded leaves it as it was (R185). -/
def Obligations.AlertFollowsLevelAndQueue : Prop :=
  (∀ (s : State) (level : Byte), s.portFree →
    (level.toNat ≤ 7 →
      exec (.setAlertLevel level) s =
        .next (((s.taken 4).modPort fun p => { p with alertLevel := level.toNat }).answer .done)) ∧
    (7 < level.toNat → exec (.setAlertLevel level) s = replied s 4 (.refuse .range))) ∧
  State.reset.port.alertLevel = 7 ∧ (∀ s : State, s.warmReset.port.alertLevel = 7) ∧
  State.reset.alertLow = false ∧ (∀ s : State, s.warmReset.alertLow = false) ∧
  (∀ s : State, s.alertLow = true ↔ ∃ r ∈ s.port.reports, s.port.alertLevel < r.kind.priority) ∧
  (∀ s : State, s.port.alertLevel = 7 → s.alertLow = false) ∧
  (∀ (s : State) (kind : ReportKind) (zone slab : Option Nat) (value : Option Int),
    (s.port.reports.length < 32 →
      (s.report kind zone slab value).alertLow = (s.alertLow || decide (s.port.alertLevel < kind.priority))) ∧
    (32 ≤ s.port.reports.length → (s.report kind zone slab value).alertLow = s.alertLow))

/-- READ_STATUS, READ_RANGE, READ_RECORD and READ_LIST answer with the state as it stands and change nothing else;
READ_PEERS answers and then sets the line's counts and the gap counts to 0 and clears the status-changed flags. Each payload
holds the fields its rule lists, in the order listed: the record's (R16), the zone's (R41) and the position's (R164), the
list entry's (R114), the line's and its peers' (R64), and the station's (R182). Sizes of fields that R177 does not give are
log 14's, timers log 15's, and each field sent once log 16's; log 55 chooses a shown ID, logs 64 and 65 leave two values free,
and of READ_STATUS the peer state beside the own number is log 69's, the index shown where no need equals Dreq log 75's, the
tag counter's byte log 76's, the presence byte of exit clear and none for late push done log 77's, ALERT# log 78's, and the
last discharge's age, taken modulo 2^32, log 13's; READ_RANGE selects by the number of positions, which is log 84. -/
def Obligations.ReadsAnswerFromTheState : Prop :=
  ∀ s : State, s.portFree →
    exec .readStatus s = replied s 3 (.okWith s.statusPayload) ∧
    (∀ a b c d : Byte,
      (a.toNat ≤ 5 → b.toNat ≤ 5 → c.toNat ≤ 47 → d.toNat ≤ 47 →
        exec (.readRange a b c d) s =
          replied s 7 (.okWith (s.rangePayload a.toNat b.toNat c.toNat d.toNat))) ∧
      (5 < a.toNat ∨ 5 < b.toNat ∨ 47 < c.toNat ∨ 47 < d.toNat →
        exec (.readRange a b c d) s = replied s 7 (.refuse .range))) ∧
    (∀ id : Word,
      (∀ r, s.record? id.toNat = some r → exec (.readRecord id) s = replied s 7 (.okWith (s.recordPayload r))) ∧
      (s.record? id.toNat = none → exec (.readRecord id) s = replied s 7 (.refuse .unknownId))) ∧
    (∀ bank first last : Byte,
      (bank.toNat = 1 → first.toNat ≤ 23 → last.toNat ≤ 23 →
        exec (.readList bank first last) s =
          replied s 6 (.okWith (s.listPayload 1 s.lists.active first.toNat last.toNat))) ∧
      (bank.toNat = 2 → first.toNat ≤ 23 → last.toNat ≤ 23 →
        exec (.readList bank first last) s =
          replied s 6 (.okWith (s.listPayload 2 s.lists.pendingBank first.toNat last.toNat))) ∧
      ((bank.toNat ≠ 1 ∧ bank.toNat ≠ 2) ∨ 23 < first.toNat ∨ 23 < last.toNat →
        exec (.readList bank first last) s = replied s 6 (.refuse .range))) ∧
    exec .readPeers s =
      .next ({ s.taken 3 with
        line := { s.line with lineErrors := 0, foreign := 0, collisions := 0,
                              peers := s.line.peers.map fun p : Peer => ({ p with gaps := 0, changed := false } : Peer) } }.answer
          (.okWith s.peersPayload)) ∧
    -- the fields of the payloads
    (∀ r : Record, s.recordPayload r =
      u4 (match r.status with | .expected => 0 | .incoming => 1 | .live => 2) ++ u1 ((s.zoneOf r).getD 0) ++
      u4 r.id ++ u2 r.seq ++ u1 r.dest ++ u2 r.nominal ++ opt u2 r.measured ++ u2 r.width ++ u2 r.thickness ++
      u2 r.weight ++ u1 r.cls.code ++ i4 r.classStamp ++ u1 r.hostClass.code ++ yn r.permit ++
      opt i4 (r.landing.map fun l => l.1) ++ opt u1 (r.landing.map fun l => l.2) ++ i4 (s.now - r.classStamp) ++
      opt i4 (r.landing.map fun l => s.now - l.1) ++
      items (fun h : HoldReason => u4 (match h with
        | .host => 0 | .lengthMismatch => 1 | .misrouted => 2 | .endOfLine => 3 | .outOfSequence => 4 | .unlisted => 5
        | .tooLong => 6)) r.holds.toList ++
      u1 r.baseClass.code ++ u1 r.ownClass.code ++
      yn (decide (s.store.watch1 = some r.id ∨ s.store.watch2 = some r.id))) ∧
    (∀ (code first last : Nat) (es : List ListEntry), es.length ≤ 24 → s.listPayload code es first last =
      u1 code ++ u4 es.length ++ u4 (if s.lists.suspect then 1 else 0) ++ yn s.lists.deferred ++
      items (fun p : Nat × ListEntry => u1 p.1 ++ u4 p.2.id ++ u2 p.2.seq ++ yn p.2.permit ++
        (match s.record? p.2.id with
          | some r => u4 0 ++ u4 (match r.status with | .expected => 0 | .incoming => 1 | .live => 2) ++
              u1 ((s.zoneOf r).getD 0)
          | none => if p.2.id ∈ s.hearth.ids then u4 1 else u4 2))
        (((List.range es.length).zip es).filter fun p => decide (first ≤ p.1 ∧ p.1 ≤ last))) ∧
    (∀ zFirst zLast hFirst hLast : Nat, s.rangePayload zFirst zLast hFirst hLast =
      u1 ((List.range s.zones.length).filter fun k => decide (zFirst ≤ k ∧ k ≤ zLast)).length ++
      u1 ((List.range s.hearth.positions.length).filter fun k => decide (hFirst ≤ k ∧ k ≤ hLast)).length ++
      ((List.range s.zones.length).filter fun k => decide (zFirst ≤ k ∧ k ≤ zLast)).flatMap s.zoneItem ++
      (((List.range s.hearth.positions.length).zip s.hearth.positions).filter fun p =>
        decide (hFirst ≤ p.1 ∧ p.1 ≤ hLast)).flatMap fun p => s.positionItem p.1 p.2) ∧
    (∀ k : Nat, s.zoneItem k =
      u4 (match (s.zone k).state with
        | .free => 0 | .expecting => 1 | .reserved => 2 | .receiving => 3 | .occupied => 4 | .sending => 5
        | .unknown => 6 | .fault => 7) ++
      opt (fun f : ZoneFault => u4 f.kind.ctorIdx) (if (s.zone k).state = .fault then (s.zone k).fault else none) ++
      opt u1 (if (s.zone k).state = .fault then (s.zone k).fault.bind (fun f => f.partner) else none) ++
      items u4 ((s.zone k).occ ++ (s.zone k).expected.toList ++
        if k = 0 ∧ s.inc.state ≠ .idle then [s.inc.slab] else []) ++
      yn (s.zone k).departing ++ yn (s.zone k).handleMoved ++ u1 (s.zone k).zoneClass.code ++ yn (s.zone k).landing ++
      items (fun id => u1 (s.effClass id k).code) (s.zone k).occ ++
      (if s.isDoor k then groupField (s.groupDrive .near) ++ groupField (s.groupDrive .far)
        else driveField (s.zoneDrive k)) ++
      yn (s.zonePins k).entry ++ yn (s.zonePins k).rest ++ yn (s.zonePins k).landing ++ opt u4 (s.zone k).timer ++
      opt u4 (s.zone k).lastTransit ++ yn (s.zone k).verified) ∧
    (∀ (i : Nat) (p : Position), s.positionItem i p =
      u1 i ++ u2 p.number ++
      items (fun x : HearthSlab => u4 x.id ++ u2 x.thickness ++ u2 x.width ++ u2 x.weight ++ u1 x.cls.code) p.slabs ++
      u2 p.pitch ++ u4 p.weightSum ++ u2 p.residence ++ yn p.saturated ++ i4 p.chargeTime ++ i4 (s.now - p.chargeTime) ++
      yn p.offCentre ++ opt u2 p.stroke ++ opt i4 p.margin) ∧
    (∃ peer : Peer → List Byte, s.peersPayload =
        u1 (match s.line.mode with | .unstarted => 0 | .listening => 1 | .run => 2 | .halted => 3 | .isolated => 4) ++
        opt (fun c : Isolation => u4 (match c with | .silence => 0 | .duplicate => 1 | .transmitFault => 2))
          s.line.isolation ++
        u4 (match s.line.stage with | .notStarted => 0 | .listen => 1 | .count => 2 | .passed => 3) ++
        opt u4 (if s.line.stage = .listen ∨ s.line.stage = .count then some s.line.tally else none) ++
        u4 s.line.lineErrors ++ u4 s.line.foreign ++ u4 s.line.collisions ++ u4 s.line.txSeq.toNat ++
        items peer s.line.peers ∧
      ∀ p : Peer, peer p =
        u1 p.station ++ u4 (match p.state with | .absent => 0 | .heard => 1 | .qualified => 2 | .stale => 3) ++
        opt u4 p.age ++ u4 p.consecutive ++ opt (fun b : Byte => u4 b.toNat) p.lastSeq ++ u4 p.gaps ++ yn p.changed ++
        opt (fun d : Declaration => u1 d.mode.code ++ u1 d.entry.code ++
          opt bytesOfWord (if d.entryId = 0 then none else some d.entryId) ++ u1 d.exit.code ++ [d.doorOccupancy] ++
          yn d.holding ++ bytesOfHalf d.dreq ++ bytesOfHalf d.davg ++ bytesOfHalf d.freeLength ++ [d.count, d.faults])
          p.last) ∧
    s.statusPayload =
      yn s.started ++ u4 (match s.lastReset with | .cold => 0 | .warm => 1) ++ bytesOfWord s.clk.seconds ++
      u1 (match s.line.mode with | .unstarted => 0 | .listening => 1 | .run => 2 | .halted => 3 | .isolated => 4) ++
      opt (fun c : Isolation => u4 (match c with | .silence => 0 | .duplicate => 1 | .transmitFault => 2))
        s.line.isolation ++
      s.haltField ++ s.out.field ++ s.inc.field ++ (s.zone 0).stateField ++ (s.zone s.exitZone).stateField ++
      s.doorField ++ s.cycleField ++ s.hearthField ++ s.paceField ++
      u4 (if s.lists.suspect then 1 else 0) ++ yn s.lists.deferred ++ u4 s.port.reports.length ++
      u1 s.port.alertLevel ++ yn (!s.alertLow) ∧
    s.haltField =
      items (fun n => u1 n ++ opt (fun p : Peer => u4 p.state.ctorIdx) (s.line.peer? n)) s.halt.holders ++
      items (fun r : HaltReason => u1 r.code)
        ([HaltReason.host, .estop, .landingConflict, .liftedInMotion].filter s.halt.causes.has) ++
      u1 s.line.mode.ctorIdx ++ opt u4 (s.creep.map fun ms => (ms + 999) / 1000) ++
      opt (fun r : LimboReason => u4 r.ctorIdx) (if s.cycle.state = .limbo then s.cycle.limbo else none) ∧
    s.out.field =
      u4 s.out.state.ctorIdx ++ [s.out.tagCounter] ++
      (if s.out.state = .idle then [0, 0] else [1, s.out.tag, 1] ++ u4 s.out.slab) ++
      (if s.out.state = .cleared ∨ s.out.state = .runningOut then [1] ++ u1 s.out.downClass.code else [0]) ++
      opt u4 s.out.answer ++ (if s.out.state = .runningOut then [1] ++ yn s.out.exitClear else [0]) ++
      yn s.out.offerBar ++ opt (fun d : Nat × DeclineReason => u4 d.1 ++ u1 d.2.code) s.out.lastDecline ∧
    s.inc.field =
      u4 s.inc.state.ctorIdx ++
      (if s.inc.state = .idle then [0, 0, 0]
        else [1, s.inc.tag, 1] ++ u4 s.inc.slab ++ [1] ++ u1 s.inc.upClass.code) ∧
    s.doorField =
      u4 s.door.substate.ctorIdx ++ items s.trackField s.door.tracks ++ yn s.door.offCentre ++
      (match s.door.pairTimer with
        | none => u4 0 ++ [0]
        | some ms => u4 (if s.line.mode = .run ∧ s.door.substate = .pairWait then 1 else 2) ++ [1] ++
            u4 ((ms + 999) / 1000)) ++
      opt u4 s.door.stallNear ++ opt u4 s.door.stallFar ++ opt i4 s.door.lastError ∧
    (∀ t : Track, s.trackField t =
      u4 t.id ++ u4 t.role.ctorIdx ++ i4 t.count ++ u4 t.encoder.ctorIdx ++ opt u4 t.target ++ u4 t.corrections ++
      yn t.handleMoved ++ u4 (trackPosition s.params t) ++
      i4 ((trackPosition s.params t : Int) - (s.lengthOf t.id : Nat)) ++
      opt i4 (t.target.map fun x => (trackPosition s.params t : Int) - (x : Nat))) ∧
    s.cycleField =
      u4 s.cycle.state.ctorIdx ++ (if s.cycle.charge = [] then [0] else [1] ++ items u4 s.cycle.charge) ++
      yn s.cycle.offCentre ++ u2 s.cycle.pitch ++ u4 s.cycle.weightSum ++ opt u2 s.cycle.stroke ++
      (match s.cycle.timer with
        | none => u4 0 ++ [0]
        | some ms => u4 (if s.line.mode = .run then 1 else 2) ++ [1] ++ u4 ms) ++
      yn s.cycle.committing ++ opt (fun r : LimboReason => u4 r.ctorIdx) s.cycle.limbo ++ yn s.cycle.latePush ++
      items u4 s.cycle.waits.toList ++ yn s.pins.doorOpen ++ yn s.pins.doorShut ++ yn s.pins.pushDone ++
      yn s.pins.barHome ++ yn s.pins.furnPermit ++ yn s.doorOpenCmd ++ yn s.pushCmd ∧
    (∃ free : Half, (s.hearth.fill ≤ s.params.hearthLength → s.params.hearthLength ≤ 65535 →
        free = BitVec.ofNat 16 (s.params.hearthLength - s.hearth.fill)) ∧
      s.hearthField = u1 s.hearth.count ++ u4 s.hearth.fill ++ u4 s.hearth.load ++ bytesOfHalf free ++
      u4 (match s.hearth.integrity with | .unknown => 0 | .intact => 1 | .suspect => 2) ++ u2 s.hearth.nextNumber) ∧
    s.paceField =
      items u4 s.pace.ring ++
      opt (fun l : Word × Word => bytesOfWord l.1 ++ bytesOfWord l.2 ++ bytesOfWord (s.clk.seconds - l.2)) s.pace.last ++
      u2 s.pace.davg ++ yn s.pace.stable ++ u2 s.pace.dreq ++ yn s.pace.saturated ++ opt u1 s.dreqIndex ++
      u4 s.pace.linePace ++ u1 s.pace.source ++ u4 s.pace.reported ++
      items (fun q : Peer => u4 q.state.ctorIdx ++ opt (fun d : Declaration => bytesOfHalf d.dreq) q.last ++
        yn (q.state == .qualified)) s.line.peers ∧
    (∀ n : Nat, u1 n = [byteOf n] ∧ u2 n = bytesOfHalf (BitVec.ofNat 16 n) ∧ u4 n = bytesOfWord (BitVec.ofNat 32 n)) ∧
    (∀ v : Int, -2147483648 ≤ v → v ≤ 2147483647 → i4 v = bytesOfWord (BitVec.ofInt 32 v)) ∧
    (∀ (f : Nat → List Byte) (x : Nat) (xs : List Nat),
      opt f (some x) = 1 :: f x ∧ opt f none = [0] ∧ items f xs = byteOf xs.length :: xs.flatMap f) ∧
    yn true = [1] ∧ yn false = [0]

/-- READ_EVENTS removes up to n reports from the front of the queue and returns them oldest first with every field and
the number still queued, in one step; n outside 1 to 32 is refused RANGE, and an empty queue is read OK (R183, R184). The
sizes of a report's fields are the model's choice (log 14). -/
def Obligations.ReadEventsTakesTheOldestReports : Prop :=
  ∀ (s : State) (n : Byte), s.portFree →
    (1 ≤ n.toNat → n.toNat ≤ 32 →
      exec (.readEvents n) s =
        .next (((s.taken 4).modPort fun p => { p with reports := s.port.reports.drop n.toNat }).answer
          (.okWith (items Report.field (s.port.reports.take n.toNat) ++
            u4 (s.port.reports.drop n.toNat).length)))) ∧
    (∀ r : Report, r.field =
      u4 r.number.toNat ++ bytesOfWord r.time ++ u4 r.kind.code ++ u4 r.kind.priority ++ opt u1 r.zone ++
      opt u4 r.slab ++ opt i4 r.value ++ yn r.lostAfter ++ u4 r.lost) ∧
    (n.toNat = 0 ∨ 32 < n.toNat → exec (.readEvents n) s = replied s 4 (.refuse .range))


/-! ## Slabs and zones by command -/

/-- HOLD adds HOST and RELEASE removes HOST and LENGTH_MISMATCH of one record of the pool and changes nothing else;
UNKNOWN_ID without a record, STATE in a handover (R9). -/
def Obligations.HoldAndReleaseChangeOneHoldSet : Prop :=
  ∀ (s : State) (id : Word), s.portFree →
    (s.record? id.toNat = none →
      exec (.hold id) s = refusedReply s 7 .unknownId ∧ exec (.release id) s = refusedReply s 7 .unknownId) ∧
    (∀ r, s.record? id.toNat = some r →
      (r.status = .incoming ∨ (s.out.state = .runningOut ∧ s.out.slab = id.toNat) →
        exec (.hold id) s = refusedReply s 7 .state ∧ exec (.release id) s = refusedReply s 7 .state) ∧
      (r.status ≠ .incoming → ¬(s.out.state = .runningOut ∧ s.out.slab = id.toNat) →
        (∃ v, exec (.hold id) s = settledReply s 7 v .done ∧
          v = { s.taken 7 with store := { s.store with pool := v.store.pool } } ∧
          v.record? id.toNat = some { r with holds := { r.holds with host := true } } ∧
          ∀ x, x ≠ id.toNat → v.record? x = s.record? x) ∧
        (∃ v, exec (.release id) s = settledReply s 7 v .done ∧
          v = { s.taken 7 with store := { s.store with pool := v.store.pool } } ∧
          v.record? id.toNat = some { r with holds := { r.holds with host := false, lengthMismatch := false } } ∧
          ∀ x, x ≠ id.toNat → v.record? x = s.record? x)))

/-- EXPECT_LANDING is refused MODE, RANGE, STATE, DUPLICATE or FULL in that order, and otherwise adds an EXPECTED record
and names it in its zone, now EXPECTING; CANCEL_EXPECT deletes the record and frees the zone. A slab block gives a record
exactly when its fields are in their ranges, with the fields it carries, the class stamp of its age, no measured length, no
hold reason, and the base class raised for a heavy slab (R1, R3, R4, R10, R30). -/
def Obligations.ExpectLandingAndCancelExpect : Prop :=
  (∀ (s : State) (zone : Byte) (slab : SlabBlock), s.portFree →
    (s.started = false → exec (.expectLanding zone slab) s = refusedReply s 26 .mode ∧
      exec (.cancelExpect zone) s = refusedReply s 4 .mode) ∧
    (s.started = true → s.zones.length ≤ zone.toNat → exec (.expectLanding zone slab) s = refusedReply s 26 .range ∧
      exec (.cancelExpect zone) s = refusedReply s 4 .range) ∧
    (s.started = true → slabRecord? slab s.now s.params.heavyKg none .expected = none →
      exec (.expectLanding zone slab) s = refusedReply s 26 .range) ∧
    (∀ r, s.started = true → zone.toNat < s.zones.length →
      slabRecord? slab s.now s.params.heavyKg none .expected = some r →
      ((s.zone zone.toNat).landing = false ∨ (s.zone zone.toNat).state ≠ .free →
        exec (.expectLanding zone slab) s = refusedReply s 26 .state) ∧
      ((s.zone zone.toNat).landing = true → (s.zone zone.toNat).state = .free →
        ((∃ x ∈ s.store.pool, x.id = r.id) ∨ r.id ∈ s.hearth.ids →
          exec (.expectLanding zone slab) s = refusedReply s 26 .duplicate) ∧
        ((∀ x ∈ s.store.pool, x.id ≠ r.id) → r.id ∉ s.hearth.ids →
          (12 ≤ s.store.pool.length → exec (.expectLanding zone slab) s = refusedReply s 26 .full) ∧
          (s.store.pool.length < 12 →
            exec (.expectLanding zone slab) s =
              settledReply s 26
                { s.taken 26 with
                  store := { s.store with pool := s.store.pool ++ [r] }
                  zones := s.zones.set zone.toNat
                    { s.zone zone.toNat with state := .expecting, expected := some r.id } } .done)))) ∧
    (s.started = true → zone.toNat < s.zones.length → (s.zone zone.toNat).state ≠ .expecting →
      exec (.cancelExpect zone) s = refusedReply s 4 .state) ∧
    (∀ id, s.started = true → zone.toNat < s.zones.length → (s.zone zone.toNat).state = .expecting →
      (s.zone zone.toNat).expected = some id →
      ∃ v, exec (.cancelExpect zone) s = settledReply s 4 v .done ∧
        v = { s.taken 4 with store := v.store, zones := v.zones, door := v.door } ∧
        v.store.pool = s.store.pool.filter (fun r => r.id != id) ∧ v.store.watch1 = s.store.watch1 ∧
        v.store.watch2 = s.store.watch2 ∧ v.door = { s.door with tracks := v.door.tracks } ∧
        v.zones.length = s.zones.length ∧ (v.zone zone.toNat).state = .free ∧ (v.zone zone.toNat).occ = [] ∧
        (v.zone zone.toNat).expected = none ∧
        ∀ j, j ≠ zone.toNat → (v.zone j).state = (s.zone j).state ∧
          ∀ x, x ≠ id → (x ∈ (v.zone j).occ ↔ x ∈ (s.zone j).occ))) ∧
  (∀ (b : SlabBlock) (now : Int) (heavyKg : Nat) (landing : Option (Int × Nat)) (st : RecordStatus),
    ((slabRecord? b now heavyKg landing st).isSome = true ↔
      1 ≤ b.id.toNat ∧ 1 ≤ b.dest.toNat ∧ b.dest.toNat ≤ 8 ∧ 1500 ≤ b.nominal.toNat ∧ b.nominal.toNat ≤ 5500 ∧
      900 ≤ b.width.toNat ∧ b.width.toNat ≤ 2600 ∧ 100 ≤ b.thickness.toNat ∧ b.thickness.toNat ≤ 450 ∧
      2000 ≤ b.weight.toNat ∧ b.weight.toNat ≤ 45000 ∧ b.cls.toNat ≤ 2 ∧ b.hostClass.toNat ≤ 3 ∧
      b.permit.toNat ≤ 1 ∧ b.classAge.toNat ≤ 2147483647) ∧
    (∀ r, slabRecord? b now heavyKg landing st = some r →
      r.id = b.id.toNat ∧ r.seq = b.seq.toNat ∧ r.dest = b.dest.toNat ∧ r.nominal = b.nominal.toNat ∧
      r.measured = none ∧ r.width = b.width.toNat ∧ r.thickness = b.thickness.toNat ∧ r.weight = b.weight.toNat ∧
      r.cls.code = b.cls.toNat ∧ r.classStamp = signedStamp (now - (b.classAge.toNat : Int)) ∧
      r.hostClass.code = b.hostClass.toNat ∧
      r.baseClass.code = max b.hostClass.toNat (if heavyKg < b.weight.toNat then 1 else 0) ∧
      (r.permit = true ↔ b.permit.toNat = 1) ∧ r.holds = {} ∧ r.landing = landing ∧ r.status = st))

/-- IDENTIFY is refused MODE, RANGE, STATE, DUPLICATE or FULL in that order; otherwise the slab lies LIVE and at rest in
its zone, landed here and now, held as its routing gives it, with the reports of R14 and R29; in the door zone a slab not
destined here leaves the substate EMPTY, one destined here is placed where its track says, POSITIONED or PAIR_WAIT within
tolerance, and faults the zone out of tolerance or untracked (R3, R5, R34, R135). WATCH_HIT before MISROUTED or END_OF_LINE
is log 7, a slab not destined here taken as a passing one log 46, the substate POSITIONING of that fault log 45, and the pair
wait timer stopped at EMPTY log 71. -/
def Obligations.IdentifyBindsTheSlab : Prop :=
  ∀ (s : State) (zone : Byte) (slab : SlabBlock), s.portFree →
    (s.started = false → exec (.identify zone slab) s = refusedReply s 26 .mode) ∧
    (s.started = true → s.zones.length ≤ zone.toNat → exec (.identify zone slab) s = refusedReply s 26 .range) ∧
    (s.started = true →
      slabRecord? slab s.now s.params.heavyKg (some (signedStamp s.now, s.params.stationNo)) .live = none →
      exec (.identify zone slab) s = refusedReply s 26 .range) ∧
    (∀ r, s.started = true → zone.toNat < s.zones.length →
      slabRecord? slab s.now s.params.heavyKg (some (signedStamp s.now, s.params.stationNo)) .live = some r →
      ((s.zone zone.toNat).state ≠ .unknown → exec (.identify zone slab) s = refusedReply s 26 .state) ∧
      ((s.zone zone.toNat).state = .unknown →
        ((∃ x ∈ s.store.pool, x.id = r.id) ∨ r.id ∈ s.hearth.ids →
          exec (.identify zone slab) s = refusedReply s 26 .duplicate) ∧
        ((∀ x ∈ s.store.pool, x.id ≠ r.id) → r.id ∉ s.hearth.ids →
          (12 ≤ s.store.pool.length → exec (.identify zone slab) s = refusedReply s 26 .full) ∧
          (s.store.pool.length < 12 →
            (s.isDoor zone.toNat = false →
              ∃ v, exec (.identify zone slab) s = settledReply s 26 v .done ∧
                v = { s.taken 26 with
                      store := { s.store with pool := s.store.pool ++
                        [{ r with holds := { misrouted := s.routingOf r.dest zone.toNat == .misrouted,
                                             endOfLine := s.routingOf r.dest zone.toNat == .endOfLine } }] }
                      zones := v.zones, port := v.port } ∧
                (v.zone zone.toNat).state = .occupied ∧ (v.zone zone.toNat).occ = [r.id] ∧
                (v.zone zone.toNat).departing = false ∧ (∀ j, j ≠ zone.toNat → v.zone j = s.zone j) ∧
                v.port =
                  (let hit := (s.taken 26).watchHit r.id (some zone.toNat) 1
                   match s.routingOf r.dest zone.toNat with
                   | .misrouted => hit.report .misrouted (some zone.toNat) (some r.id) (some r.dest)
                   | .endOfLine => hit.report .endOfLine (some zone.toNat) (some r.id) (some r.dest)
                   | _ => hit).port) ∧
            (s.isDoor zone.toNat = true → r.dest ≠ s.params.stationNo →
              ∃ v, exec (.identify zone slab) s = settledReply s 26 v .done ∧
                (v.zone zone.toNat).state = .occupied ∧ (v.zone zone.toNat).occ = [r.id] ∧
                v.door.substate = .empty ∧ v.door.offCentre = false ∧ v.door.pairTimer = none) ∧
            (s.isDoor zone.toNat = true → r.dest = s.params.stationNo → s.door.find? r.id = none →
              ∃ v, exec (.identify zone slab) s = settledReply s 26 v .done ∧
                (v.zone zone.toNat).state = .fault ∧
                (v.zone zone.toNat).fault = some ⟨.positionFault, none⟩ ∧ v.door.substate = .positioning) ∧
            (∀ (t : Track) (role : Role) (target : Nat), s.isDoor zone.toNat = true → r.dest = s.params.stationNo →
              s.door.find? r.id = some t → role = (if t.role = .pairFirst then .pairFirst else .single) →
              target = (roleTarget s.params role r.nominal).getD 0 →
              ∃ v, exec (.identify zone slab) s = settledReply s 26 v .done ∧
                (((trackPosition s.params t : Int) - (target : Nat)).natAbs ≤ s.params.posTol →
                  (v.zone zone.toNat).state = .occupied ∧ (v.zone zone.toNat).occ = [r.id] ∧
                  v.door.substate = (if role = .pairFirst then .pairWait else .positioned)) ∧
                (s.params.posTol < ((trackPosition s.params t : Int) - (target : Nat)).natAbs →
                  (v.zone zone.toNat).state = .fault ∧
                  (v.zone zone.toNat).fault = some ⟨.positionFault, none⟩ ∧ v.door.substate = .positioning))))))

/-- CLEAR_FAULT is refused MODE, RANGE or STATE in that order, STATE too while a condition of R37 holds or one that R149
names for the door zone's kinds; a zone without a partner is then settled by its occupants and its presence, the door zone
with its substate derived (R135; logs 30, 45, 46, 57, 58, 71), and a pair of one move leaves FAULT together, each zone settled
by its own, no other zone changing its state; the outgoing context ends with its exit zone. That the presence of a partner
without a slab is the straddling slab of an occupied upstream partner that shows presence is log 26 (R37, R83, R149). -/
def Obligations.ClearFaultSettlesTheZone : Prop :=
  ∀ (s : State) (zone : Byte), s.portFree →
    (s.started = false → exec (.clearFault zone) s = refusedReply s 4 .mode) ∧
    (s.started = true → s.zones.length ≤ zone.toNat → exec (.clearFault zone) s = refusedReply s 4 .range) ∧
    (s.started = true → zone.toNat < s.zones.length → (s.zone zone.toNat).state ≠ .fault →
      exec (.clearFault zone) s = refusedReply s 4 .state) ∧
    (∀ kind partner, s.started = true → zone.toNat < s.zones.length → (s.zone zone.toNat).state = .fault →
      (s.zone zone.toNat).fault = some ⟨kind, partner⟩ →
      (kind = .doorFault ∧ s.pins.doorShut = false) ∨ (kind = .barFault ∧ s.pins.barHome = false) ∨
        (kind = .pushFault ∧ s.cycle.state = .limbo) →
      exec (.clearFault zone) s = refusedReply s 4 .state) ∧
    (∀ kind, s.started = true → zone.toNat < s.zones.length → (s.zone zone.toNat).state = .fault →
      (s.zone zone.toNat).fault = some ⟨kind, none⟩ → s.isDoor zone.toNat = false →
      (kind = .doorFault → s.pins.doorShut = true) → (kind = .barFault → s.pins.barHome = true) →
      (kind = .pushFault → s.cycle.state ≠ .limbo) →
      ((s.zone zone.toNat).occ = [] → s.presence zone.toNat = true →
        exec (.clearFault zone) s = refusedReply s 4 .state) ∧
      ((s.zone zone.toNat).occ ≠ [] ∨ s.presence zone.toNat = false →
        ∃ v, exec (.clearFault zone) s = settledReply s 4 v .done ∧ v.zones.length = s.zones.length ∧
          ((s.zone zone.toNat).occ = [] → (v.zone zone.toNat).state = .free ∧ v.store = s.store) ∧
          ((s.zone zone.toNat).occ ≠ [] → s.presence zone.toNat = true →
            (v.zone zone.toNat).state = .occupied ∧ (v.zone zone.toNat).occ = (s.zone zone.toNat).occ ∧
            (v.zone zone.toNat).departing = false) ∧
          ((s.zone zone.toNat).occ ≠ [] → s.presence zone.toNat = false →
            (v.zone zone.toNat).state = .free ∧ (v.zone zone.toNat).occ = [] ∧
            v.store.pool = s.store.pool.filter fun r => !(s.zone zone.toNat).occ.contains r.id) ∧
          (v.zone zone.toNat).fault = none ∧ (∀ j, j ≠ zone.toNat → (v.zone j).state = (s.zone j).state) ∧
          v.out = (if zone.toNat = s.exitZone ∧ s.out.state = .runningOut then
            { s.out with state := .idle, answer := none, exitClear := false } else s.out) ∧
          v.hearth = s.hearth ∧ v.lists = s.lists ∧ v.cycle = s.cycle ∧ v.params = s.params)) ∧
    (∀ kind occ, s.started = true → zone.toNat < s.zones.length → (s.zone zone.toNat).state = .fault →
      (s.zone zone.toNat).fault = some ⟨kind, none⟩ → s.isDoor zone.toNat = true →
      (kind = .doorFault → s.pins.doorShut = true) → (kind = .barFault → s.pins.barHome = true) →
      (kind = .pushFault → s.cycle.state ≠ .limbo) → occ = (s.zone zone.toNat).occ →
      (occ = [] → s.presence zone.toNat = true → exec (.clearFault zone) s = refusedReply s 4 .state) ∧
      (s.presence zone.toNat = false →
        ∃ v, exec (.clearFault zone) s = settledReply s 4 v .done ∧ (v.zone zone.toNat).state = .free ∧
          (v.zone zone.toNat).occ = [] ∧ v.door.substate = .empty ∧ v.door.offCentre = false ∧
          v.door.pairTimer = none ∧ v.store.pool = s.store.pool.filter fun r => !occ.contains r.id) ∧
      (occ ≠ [] → s.presence zone.toNat = true → (∀ id ∈ occ, s.destinedHere id = false) →
        ∃ v, exec (.clearFault zone) s = settledReply s 4 v .done ∧ (v.zone zone.toNat).state = .occupied ∧
          (v.zone zone.toNat).occ = occ ∧ v.door.substate = .empty) ∧
      (∀ (id : Nat) (r : Record), occ = [id] → s.presence zone.toNat = true → s.record? id = some r →
        r.dest = s.params.stationNo → kind ≠ .barFault →
        (s.door.find? id = none →
          ∃ v, exec (.clearFault zone) s = settledReply s 4 v .done ∧
            (kind = .positionFault → (v.zone zone.toNat).state = .occupied ∧ v.door.substate = .positioned ∧
              v.door.offCentre = true ∧ v.door.pairTimer = none) ∧
            (kind ≠ .positionFault → (v.zone zone.toNat).state = .fault ∧
              (v.zone zone.toNat).fault = some ⟨.positionFault, none⟩ ∧ v.door.substate = .positioning)) ∧
        (∀ (t : Track) (role : Role) (target : Nat), s.door.find? id = some t →
          role = (if t.role = .pairFirst then .pairFirst else .single) →
          target = (roleTarget s.params role r.length).getD 0 →
          ∃ v, exec (.clearFault zone) s = settledReply s 4 v .done ∧ (v.zone zone.toNat).state = .occupied ∧
            (v.zone zone.toNat).occ = [id] ∧
            (((trackPosition s.params t : Int) - (target : Nat)).natAbs ≤ s.params.posTol →
              (role = .single → v.door.substate = .positioned) ∧
              (role = .pairFirst → s.door.pairTimer = some 0 →
                v.door.substate = .positioned ∧ v.door.offCentre = true ∧ v.door.pairTimer = none) ∧
              (role = .pairFirst → s.door.pairTimer ≠ some 0 →
                v.door.substate = .pairWait ∧
                v.door.pairTimer = (if s.door.pairTimer = none ∨
                    (s.line.mode = .run ∧ s.door.substate = .pairWait) then some (s.params.pairTimeout * 1000)
                  else s.door.pairTimer))) ∧
            (s.params.posTol < ((trackPosition s.params t : Int) - (target : Nat)).natAbs →
              (kind = .positionFault → v.door.substate = .positioned ∧ v.door.offCentre = true ∧
                v.door.pairTimer = none) ∧
              (kind ≠ .positionFault → v.door.substate = .positioning ∧ v.door.placing = some id ∧
                (v.door.phase = .approach ∨ v.door.phase = .stopping))))) ∧
      (∀ (a b : Nat) (ra rb : Record) (ta tb : Track), occ = [a, b] → a ≠ b → s.presence zone.toNat = true →
        s.record? a = some ra → s.record? b = some rb → ra.dest = s.params.stationNo → kind ≠ .barFault →
        s.door.find? a = some ta → s.door.find? b = some tb →
        ((trackPosition s.params ta : Int) -
          ((roleTarget s.params .pairFirst ra.length).getD 0 : Nat)).natAbs ≤ s.params.posTol →
        ((trackPosition s.params tb : Int) -
          ((roleTarget s.params .pairSecond rb.length).getD 0 : Nat)).natAbs ≤ s.params.posTol →
        ∃ v, exec (.clearFault zone) s = settledReply s 4 v .done ∧ (v.zone zone.toNat).state = .occupied ∧
          (v.zone zone.toNat).occ = [a, b] ∧ v.door.substate = .positioned)) ∧
    (∀ (kind : FaultKind) (k : Nat) (first second lost : List Nat) (refused : Prop), s.started = true →
      zone.toNat = k ∨ zone.toNat = k + 1 → k + 1 < s.zones.length →
      (s.zone k).state = .fault → (s.zone (k + 1)).state = .fault →
      (s.zone k).fault = some ⟨kind, some (k + 1)⟩ → (s.zone (k + 1)).fault = some ⟨kind, some k⟩ →
      (kind = .doorFault → s.pins.doorShut = true) → (kind = .barFault → s.pins.barHome = true) →
      (kind = .pushFault → s.cycle.state ≠ .limbo) →
      s.isDoor k = false ∨ (∀ id ∈ (s.zone k).occ, s.destinedHere id = false) →
      s.isDoor (k + 1) = false ∨ (s.zone (k + 1)).occ = [] →
      first = (s.zone k).occ →
      second = (if s.presence k then (s.zone (k + 1)).occ
        else (s.zone (k + 1)).occ.filter fun x => !(s.zone k).occ.contains x) →
      lost = (if s.presence (k + 1) then [] else second) →
      (refused ↔ (first = [] ∧ s.presence k = true) ∨
        ((s.zone (k + 1)).occ = [] ∧
          (((s.zone (k + 1)).landing = true ∧ (s.zonePins (k + 1)).landing = true) ∨
            (s.presence (k + 1) = true ∧ (first = [] ∨ s.presence k = false))))) →
      (refused → exec (.clearFault zone) s = refusedReply s 4 .state) ∧
      (¬ refused → ∃ v, exec (.clearFault zone) s = settledReply s 4 v .done ∧
        (v.zone k).state = (if first ≠ [] ∧ s.presence k = true then .occupied else .free) ∧
        (v.zone k).occ = (if s.presence k then first.filter fun x => !lost.contains x else []) ∧
        (v.zone (k + 1)).state = (if second ≠ [] ∧ s.presence (k + 1) = true then .occupied else .free) ∧
        (v.zone (k + 1)).occ = (if s.presence (k + 1) then second else []) ∧
        (∀ j, j ≠ k → j ≠ k + 1 → (v.zone j).state = (s.zone j).state) ∧
        (s.isDoor k = true ∨ s.isDoor (k + 1) = true → v.door.substate = .empty)))

/-! ## Charge lists -/

/-- LIST_APPEND refuses the whole request RANGE, or appends entries in their order until one is refused FULL, DUPLICATE
or ORDER against the bank as the earlier ones have left it; the response carries the number appended (R104). -/
def Obligations.ListAppendTakesEntriesInOrder : Prop :=
  ∀ (s : State) (bank : Byte) (blocks : List EntryBlock), s.portFree →
    (blocks.length = 0 ∨ 24 < blocks.length ∨ (bank.toNat ≠ 1 ∧ bank.toNat ≠ 2) ∨
        (∃ b ∈ blocks, b.id = 0 ∨ 1 < b.permit.toNat) →
      exec (.listAppend bank blocks) s =
        settledReply s (5 + 7 * blocks.length) (s.taken (5 + 7 * blocks.length))
          { status := .refused, reason := .range, payload := u1 0 }) ∧
    (∀ b, 1 ≤ blocks.length → blocks.length ≤ 24 → Bank.ofCode? bank.toNat = some b →
      (∀ x ∈ blocks, x.id ≠ 0 ∧ x.permit.toNat ≤ 1) →
      ∃ (es : List ListEntry) (n : Nat) (resp : Response),
        es = blocks.map (fun x => ⟨x.id.toNat, x.seq.toNat, x.permit == 1⟩) ∧ n ≤ es.length ∧
        exec (.listAppend bank blocks) s =
          settledReply s (5 + 7 * blocks.length)
            { s.taken (5 + 7 * blocks.length) with lists := s.lists.setBank b (s.lists.bank b ++ es.take n) } resp ∧
        (n = es.length → resp = .okWith (u1 n)) ∧
        (∀ e, es[n]? = some e →
          ∃ reason, resp = { status := .refused, reason := reason, payload := u1 n } ∧
            (if 24 ≤ (s.lists.bank b).length + n then reason = .full
             else if ∃ x ∈ s.lists.bank b ++ es.take n, x.id = e.id then reason = .duplicate
             else reason = .order ∧ ∃ x, (s.lists.bank b ++ es.take n).getLast? = some x ∧ e.seq ≤ x.seq)) ∧
        (∀ i e, i < n → es[i]? = some e →
          (s.lists.bank b).length + i < 24 ∧ (∀ x ∈ s.lists.bank b ++ es.take i, x.id ≠ e.id) ∧
          ∀ x, (s.lists.bank b ++ es.take i).getLast? = some x → x.seq < e.seq))

/-- LIST_CLEAR_PENDING empties PENDING, makes the integrity INTACT, cancels a deferred switch, says whether one was
cancelled, leaves ACTIVE, and hands nothing to the Door Positioner (R105). -/
def Obligations.ClearPendingEmptiesPending : Prop :=
  ∀ s : State, s.portFree →
    exec .listClearPending s =
      settledReply s 3
        { s.taken 3 with lists := { active := s.lists.active, pendingBank := [], suspect := false, deferred := false } }
        (.okWith (yn s.lists.deferred)) ∧
    (∃ t, exec .listClearPending s = .next t ∧ t.lists.active = s.lists.active ∧ t.lists.pendingBank = [] ∧
      t.lists.suspect = false ∧ t.lists.deferred = false ∧
      t.port.state = .answered (.okWith (yn s.lists.deferred))) ∧
    (∀ l : ListManager, l.active = s.lists.active → headHanded s { s with lists := l } = { s with lists := l })

/-- LIST_SKIP_HEAD removes the head of ACTIVE and returns its slab ID, STATE on an empty ACTIVE; LIST_INSERT_HEAD puts an
entry in front, refused RANGE, DUPLICATE or FULL in that order, its sequence number not tested; both act at once, whatever
the cycle, the substate or a deferred switch; each is handed to the Door Positioner, and a slab that becomes the head loses
OUT_OF_SEQUENCE and UNLISTED in the same step (R106, R107, R127). -/
def Obligations.HeadOperationsChangeTheFront : Prop :=
  ∀ s : State, s.portFree →
    (s.lists.active = [] → exec .listSkipHead s = refusedReply s 3 .state) ∧
    (∀ e es, s.lists.active = e :: es →
      exec .listSkipHead s =
        settledReply s 3 { s.taken 3 with lists := { s.lists with active := es } } (.okWith (u4 e.id))) ∧
    (∀ b : EntryBlock,
      (b.id = 0 ∨ 1 < b.permit.toNat → exec (.listInsertHead b) s = refusedReply s 10 .range) ∧
      (b.id ≠ 0 → b.permit.toNat ≤ 1 →
        ((∃ x ∈ s.lists.active, x.id = b.id.toNat) →
          exec (.listInsertHead b) s = refusedReply s 10 .duplicate) ∧
        ((∀ x ∈ s.lists.active, x.id ≠ b.id.toNat) → 24 ≤ s.lists.active.length →
          exec (.listInsertHead b) s = refusedReply s 10 .full) ∧
        ((∀ x ∈ s.lists.active, x.id ≠ b.id.toNat) → s.lists.active.length < 24 →
          exec (.listInsertHead b) s =
            settledReply s 10
              { s.taken 10 with
                lists := { s.lists with
                  active := ⟨b.id.toNat, b.seq.toNat, b.permit == 1⟩ :: s.lists.active } } .done))) ∧
    ((s.lists.active.map fun e => e.id).Nodup → s.lists.active ≠ [] →
      admissionDue s { s with lists := { s.lists with active := s.lists.active.drop 1 } } = true) ∧
    (∀ e : ListEntry, (∀ x ∈ s.lists.active, x.id ≠ e.id) →
      admissionDue s { s with lists := { s.lists with active := e :: s.lists.active } } = true) ∧
    (∀ (old : State) (e : ListEntry) (r : Record), s.lists.active.head? = some e →
      old.lists.active.head? ≠ some e → s.record? e.id = some r →
      (headHanded old s).record? e.id =
        some { r with holds := { r.holds with outOfSequence := false, unlisted := false } })

/-- LIST_SWITCH is refused STATE while a switch is deferred, becomes deferred while the cycle holds the lists or a pair
waits, and is applied at once otherwise; a deferred switch is applied when neither holds. The application makes ACTIVE of
the carried entries and PENDING, or fails and leaves both banks, with its report; the carried entries are those whose
slabs the pool holds and PENDING does not name, ordered by where the slabs lie, downstream first (R108 to R111). -/
def Obligations.SwitchCarriesOverAndApplies : Prop :=
  (∀ s : State, s.portFree →
    (s.lists.deferred = true → exec .listSwitch s = refusedReply s 3 .state) ∧
    (s.lists.deferred = false →
      s.cycle.holdsLists = true ∨ s.door.substate = .pairWait →
      exec .listSwitch s =
        settledReply s 3 { s.taken 3 with lists := { s.lists with deferred := true } } { status := .accepted }) ∧
    (s.lists.deferred = false → s.cycle.holdsLists = false → s.door.substate ≠ .pairWait →
      exec .listSwitch s =
        settledReply s 3 (s.taken 3).applySwitch
          (if s.carryOver.length + s.lists.pendingBank.length ≤ 24 then .done else .refuse .full))) ∧
  (∀ c : Cycle, c.committing = false →
    (c.holdsLists = true ↔ c.state ≠ .idle ∧ c.state ≠ .retracting ∧ c.state ≠ .doorClosing)) ∧
  (∀ s : State, s.lists.deferred = true → s.cycle.holdsLists = false → s.door.substate ≠ .pairWait →
    s.runDeferredSwitch = s.applySwitch) ∧
  (∀ s : State,
    (s.carryOver.length + s.lists.pendingBank.length ≤ 24 →
      s.applySwitch =
        { s with lists := { active := s.carryOver ++ s.lists.pendingBank, pendingBank := [], suspect := false,
                            deferred := false } }.report .listSwitched
          (value := some (256 * s.carryOver.length + (s.carryOver.length + s.lists.pendingBank.length) : Nat))) ∧
    (24 < s.carryOver.length + s.lists.pendingBank.length →
      s.applySwitch =
        { s with lists := { s.lists with deferred := false } }.report .listSwitchFailed
          (value := some (256 * s.carryOver.length + s.lists.pendingBank.length : Nat)))) ∧
  (∀ s : State,
    s.carryOver.Perm (s.lists.active.filter fun e =>
      (s.record? e.id).isSome && !bankHolds s.lists.pendingBank e.id) ∧
    s.carryOver.Pairwise fun a b => s.slabRank b.id ≤ s.slabRank a.id) ∧
  (∀ s : State, s.listsBounded → s.applySwitch.listsBounded)


/-! ## Charging and the hearth -/

/-- A rising edge of PUSH_DONE in PUSHING and RUN commits the charge in its step; in LIMBO it sets the late push mark and
queues LATE_PUSH_DONE once, with no commit; in every other state, and when PUSH_DONE falls, only the pin changes. The
commit queues its reports, in the order of chargeReports, before those of the pace, and each charged slab's entry leaves
ACTIVE wherever it stands or is reported missing (R112, R144, R146, R150, R156, R168, R169). That the falling edge is the
same command's operand and that an edge to the level already held does nothing is the model's choice (log 3). -/
def Obligations.PushDoneCommitsTheCharge : Prop :=
  (∀ (s : State) (id : Nat),
    ((∀ e ∈ s.lists.active, e.id ≠ id) → s.removeCharged id = s.report .listEntryMissing none (some id)) ∧
    ((∃ e ∈ s.lists.active, e.id = id) →
      s.removeCharged id =
        { s with lists := { s.lists with active := s.lists.active.filter fun e => e.id != id } })) ∧
  ∀ s : State, s.phase ≠ .unstarted → s.params.hasFurnace = true → s.pins.pushDone = false →
    (s.cycle.state = .pushing → s.line.mode = .run →
      ∃ v, exec (.pushDoneRise true) s = .next (finish { s with pins := { s.pins with pushDone := true } } v) ∧
        State.chargeMade { s with pins := { s.pins with pushDone := true } } v) ∧
    (s.cycle.state = .limbo → s.cycle.latePush = false →
      exec (.pushDoneRise true) s =
        .next (finish { s with pins := { s.pins with pushDone := true } }
          { s with pins := { s.pins with pushDone := true }
                   cycle := { s.cycle with latePush := true }
                   port := (s.report .latePushDone (some s.params.doorZone) s.cycle.charge.head?).port })) ∧
    ((s.cycle.state = .limbo ∧ s.cycle.latePush = true) ∨ (s.cycle.state ≠ .pushing ∧ s.cycle.state ≠ .limbo) ∨
        (s.cycle.state = .pushing ∧ s.line.mode ≠ .run) →
      exec (.pushDoneRise true) s =
        .next (finish { s with pins := { s.pins with pushDone := true } }
          { s with pins := { s.pins with pushDone := true } })) ∧
    exec (.pushDoneRise false) { s with pins := { s.pins with pushDone := true } } = .next (finish s s) ∧
    exec (.pushDoneRise false) s = .next s

/-- In LIMBO CONFIRM_CHARGED frees the door zone from FAULT and commits the charge, and CONFIRM_ON_TABLE with the bar home
returns the charge to the table, POSITIONED, and the cycle to IDLE, with the hearth, the pool and the lists as they were;
both are refused MODE before START, STATE outside LIMBO, and CONFIRM_ON_TABLE STATE while BAR_HOME is inactive. The commit
queues its reports after FAULT_CLEARED (R146, R150, R151; that late push done is no after it is log 82's, the value of
FAULT_CLEARED is log 44's, the pitch, weight sum and off-centre flag back at 0, 0 and no are log 61's). -/
def Obligations.TheHostAnswersLimbo : Prop :=
  ∀ s : State, s.portFree →
    (s.started = false →
      exec .confirmCharged s = refusedReply s 3 .mode ∧ exec .confirmOnTable s = refusedReply s 3 .mode) ∧
    (s.started = true → s.cycle.state ≠ .limbo →
      exec .confirmCharged s = refusedReply s 3 .state ∧ exec .confirmOnTable s = refusedReply s 3 .state) ∧
    (s.started = true → s.cycle.state = .limbo → s.pins.barHome = false →
      exec .confirmOnTable s = refusedReply s 3 .state) ∧
    (s.started = true → s.cycle.state = .limbo → s.params.doorZone < s.zones.length →
      (∃ u v, exec .confirmCharged s = settledReply s 3 v .done ∧
        u = { s.taken 3 with zones := u.zones, cycle := { s.cycle with limbo := none }
                             port := ((s.taken 3).report .faultCleared (some s.params.doorZone) none (some 10)).port } ∧
        u.doorEntry.state = .occupied ∧ u.doorEntry.departing = false ∧ u.doorEntry.occ = s.doorEntry.occ ∧
        u.doorEntry.fault = none ∧ (∀ j, j ≠ s.params.doorZone → u.zone j = s.zone j) ∧
        State.chargeMade u v ∧ v.doorEntry.state = .occupied ∧ v.doorEntry.occ = []) ∧
      (s.pins.barHome = true →
        ∃ v, exec .confirmOnTable s = settledReply s 3 v .done ∧
          v = { s.taken 3 with zones := v.zones, port := v.port
                               door := { s.door with substate := .positioned }
                               cycle := { setpoint := s.cycle.setpoint } } ∧
          v.doorEntry.state = .occupied ∧ v.doorEntry.departing = false ∧ v.doorEntry.occ = s.doorEntry.occ ∧
          v.doorEntry.fault = none ∧ (∀ j, j ≠ s.params.doorZone → v.zone j = s.zone j) ∧
          v.port = (((s.taken 3).report .faultCleared (some s.params.doorZone) none (some 10)).report
            .chargeReturned (some s.params.doorZone) s.cycle.charge.head?).port))

/-- HEARTH_RESTORE is refused RANGE, STATE, FULL, DUPLICATE and FULL for want of room, in that order, and otherwise puts
the position it describes at the young end under the next charge number, which its response carries, and Dreq follows
from START on; the block is in range exactly as R160 gives it (R154, R155, R160, R171). That the stroke used stays as given,
where R153 has it absent, is log 62, and that one sent with a presence byte of 0 is dropped is log 73. -/
def Obligations.HearthRestoreAppendsItsPosition : Prop :=
  (∀ (s : State) (b : RestoreBlock), s.portFree →
    (restorePosition? b s.now s.hearth.nextNumber = none →
      exec (.hearthRestore b) s = refusedReply s (16 + 11 * b.slabs.length) .range) ∧
    (∀ p, restorePosition? b s.now s.hearth.nextNumber = some p →
      (s.editsRefused = true → exec (.hearthRestore b) s = refusedReply s (16 + 11 * b.slabs.length) .state) ∧
      (s.editsRefused = false →
        (48 ≤ s.hearth.positions.length →
          exec (.hearthRestore b) s = refusedReply s (16 + 11 * b.slabs.length) .full) ∧
        (s.hearth.positions.length < 48 →
          (s.restoreDuplicate (p.slabs.map fun x => x.id) = true →
            exec (.hearthRestore b) s = refusedReply s (16 + 11 * b.slabs.length) .duplicate) ∧
          (s.restoreDuplicate (p.slabs.map fun x => x.id) = false →
            (s.started = true → s.hearth.hasRoom s.params p.pitch p.weightSum = false →
              exec (.hearthRestore b) s = refusedReply s (16 + 11 * b.slabs.length) .full) ∧
            (s.started = false ∨ s.hearth.hasRoom s.params p.pitch p.weightSum = true →
              ∃ v, exec (.hearthRestore b) s =
                  settledReply s (16 + 11 * b.slabs.length) v (.okWith (u2 s.hearth.nextNumber)) ∧
                v = { s.taken (16 + 11 * b.slabs.length) with
                      hearth := { s.hearth with
                        positions := s.hearth.positions ++ [p], count := s.hearth.count + 1,
                        fill := s.hearth.fill + p.pitch, load := s.hearth.load + p.weightSum,
                        nextNumber := if 65535 ≤ s.hearth.nextNumber then 1 else s.hearth.nextNumber + 1 }
                      pace := v.pace, port := v.port } ∧
                (s.phase ≠ .unstarted → v.pace.dreq = min (largestNeed s.now (s.hearth.positions ++ [p])) 7200) ∧
                (s.phase = .unstarted → v.pace = s.pace))))))) ∧
  (∀ s : State, s.editsRefused = true ↔
    s.cycle.committing = true ∨ s.cycle.state ∈ [.doorOpening, .pushing, .retracting, .doorClosing, .limbo] ∨
      (s.started = true ∧ s.params.hasFurnace = false)) ∧
  (∀ (s : State) (ids : List Nat), s.restoreDuplicate ids = true ↔
    ¬ ids.Nodup ∨ ∃ id ∈ ids, (∃ r ∈ s.store.pool, r.id = id) ∨ id ∈ s.hearth.ids) ∧
  (∀ (b : RestoreBlock) (now : Int) (n : Nat),
    ((restorePosition? b now n).isSome = true ↔
      1 ≤ b.slabs.length ∧ b.slabs.length ≤ 2 ∧ 950 ≤ b.pitch.toNat ∧ b.pitch.toNat ≤ 3000 ∧
      b.elapsed.toNat ≤ 2147483647 ∧ b.offCentre.toNat ≤ 1 ∧ b.strokePresent.toNat ≤ 1 ∧
      ∀ x ∈ b.slabs, 1 ≤ x.id.toNat ∧ 900 ≤ x.width.toNat ∧ x.width.toNat ≤ 2600 ∧ 100 ≤ x.thickness.toNat ∧
        x.thickness.toNat ≤ 450 ∧ 2000 ≤ x.weight.toNat ∧ x.weight.toNat ≤ 45000 ∧ x.cls.toNat ≤ 2) ∧
    (∀ p, restorePosition? b now n = some p →
      p.number = n ∧ p.slabs.map (fun x => x.id) = b.slabs.map (fun x => x.id.toNat) ∧ p.pitch = b.pitch.toNat ∧
      p.weightSum = (b.slabs.map fun x => x.weight.toNat).sum ∧ p.residence = b.residence.toNat ∧
      p.chargeTime = signedStamp (now - (b.elapsed.toNat : Int)) ∧ p.saturated = false ∧ p.margin = none ∧
      (p.offCentre = true ↔ b.offCentre.toNat = 1) ∧
      p.stroke = if b.strokePresent.toNat = 1 then some b.stroke.toNat else none))

/-- HEARTH_REMOVE takes one position out and HEARTH_CLEAR all of them, refused STATE while a charge is under way, with
count, F, M and Dreq following; HEARTH_REMOVE is refused RANGE first for an index without a position (log 52); and
HEARTH_CONFIRM makes the integrity INTACT and nothing else (R158, R161, R162, R171). That totals which a struck update has
left behind the positions fall no lower than 0 is log 74. -/
def Obligations.HearthEditsKeepTheTotals : Prop :=
  ∀ s : State, s.portFree →
    (∀ i : Byte,
      (s.hearth.positions.length ≤ i.toNat ∨ 47 < i.toNat →
        exec (.hearthRemove i) s = refusedReply s 4 .range) ∧
      (∀ p, i.toNat ≤ 47 → s.hearth.positions[i.toNat]? = some p →
        (s.editsRefused = true → exec (.hearthRemove i) s = refusedReply s 4 .state) ∧
        (s.editsRefused = false →
          ∃ v, exec (.hearthRemove i) s =
              settledReply s 4 v (.okWith (u2 p.number ++ u1 p.slabs.length ++ p.slabs.flatMap fun x => u4 x.id)) ∧
            v = { s.taken 4 with
                  hearth := { s.hearth with
                    positions := s.hearth.positions.eraseIdx i.toNat, count := s.hearth.count - 1,
                    fill := s.hearth.fill - p.pitch, load := s.hearth.load - p.weightSum }
                  pace := v.pace, port := v.port } ∧
            (s.phase ≠ .unstarted →
              v.pace.dreq = min (largestNeed s.now (s.hearth.positions.eraseIdx i.toNat)) 7200) ∧
            (s.phase = .unstarted → v.pace = s.pace)))) ∧
    (s.editsRefused = true → exec .hearthClear s = refusedReply s 3 .state) ∧
    (s.editsRefused = false →
      ∃ v, exec .hearthClear s = settledReply s 3 v (.okWith (u1 s.hearth.positions.length)) ∧
        v = { s.taken 3 with hearth := { s.hearth with positions := [], count := 0, fill := 0, load := 0 }
                             pace := v.pace, port := v.port } ∧
        (s.phase ≠ .unstarted → v.pace.dreq = 0 ∧ v.pace.saturated = false) ∧
        (s.phase = .unstarted → v.pace = s.pace)) ∧
    exec .hearthConfirm s =
      settledReply s 3 { s.taken 3 with hearth := { s.hearth with integrity := .intact } } .done

/-- DISCHARGE from START onward at a station with a furnace removes the oldest position, the others moving forward, with count, F, M
and Dreq following, DISCHARGED with its elapsed time and a watch hit for each of its slabs; with an empty record it queues
DISCHARGE_UNTRACKED; both hand the edge on to the Pace Calculator, which stores the interval, or reports a mill stop and
stores none; a transfer station does not act on it (R14, R157, R166, R171). That the edge before START is not acted on and
the edge carries its stamp is log 3. -/
def Obligations.DischargeRemovesTheOldestPosition : Prop :=
  (∀ (s : State) (stamp : Word), s.phase = .unstarted ∨ s.params.hasFurnace = false →
    exec (.discharge stamp) s = .next s) ∧
  (∀ (s : State) (stamp : Word) (p : Position) (rest : List Position), s.phase ≠ .unstarted →
    s.params.hasFurnace = true → s.hearth.positions = p :: rest → s.cycle.committing = false ∨ rest ≠ [] →
    ∃ v, exec (.discharge stamp) s = .next (finish s v) ∧
      v = { s with hearth := { s.hearth with positions := rest, count := s.hearth.count - 1,
                                             fill := s.hearth.fill - p.pitch, load := s.hearth.load - p.weightSum }
                   pace := v.pace, port := v.port } ∧
      v.pace.dreq = min (largestNeed s.now rest) 7200 ∧
      v.pace.ring = (s.takeDischarge stamp).pace.ring ∧ v.pace.davg = (s.takeDischarge stamp).pace.davg ∧
      v.pace.last = some (stamp, s.clk.seconds) ∧
      ∃ u w : State,
        u = s.report .discharged none (p.slabs.head?.map fun x => x.id) (some (s.now - p.chargeTime)) ∧
        w = p.slabs.foldl (fun (t : State) x => t.watchHit x.id none 6) u ∧
        v.port = ({ w.takeDischarge stamp with hearth := v.hearth }.recomputeDreq).port) ∧
  (∀ (s : State) (stamp : Word), s.phase ≠ .unstarted → s.params.hasFurnace = true →
      s.hearth.positions = [] ∨ (s.cycle.committing = true ∧ s.hearth.positions.length = 1) →
    exec (.discharge stamp) s =
      .next (finish s ((s.report .dischargeUntracked).takeDischarge stamp))) ∧
  (∀ (s : State) (stamp : Word),
    (s.pace.last = none → s.takeDischarge stamp = { s with pace := { s.pace with last := some (stamp, s.clk.seconds) } }) ∧
    (∀ (st sec : Word), s.pace.last = some (st, sec) →
      (s.params.stopThreshold + 1 < (s.clk.seconds - sec).toNat ∨ s.params.stopThreshold < (stamp - st).toNat / 1000 →
        s.takeDischarge stamp =
          { s with pace := { s.pace with last := some (stamp, s.clk.seconds) } }.report .millStopSeen
            (value := some (min (s.clk.seconds - sec).toNat 2147483647 : Nat))) ∧
      ((s.clk.seconds - sec).toNat ≤ s.params.stopThreshold + 1 → (stamp - st).toNat / 1000 ≤ s.params.stopThreshold →
        (s.takeDischarge stamp).pace.ring =
          (if 8 ≤ s.pace.ring.length then s.pace.ring.drop 1 else s.pace.ring) ++
            [max 1 (min ((stamp - st).toNat / 1000) 7200)] ∧
        (s.takeDischarge stamp).pace.last = some (stamp, s.clk.seconds) ∧
        (s.takeDischarge stamp).pace.davg =
          (s.takeDischarge stamp).pace.ring.sum / (s.takeDischarge stamp).pace.ring.length ∧
        ((∀ x ∈ s.pace.ring, x ≤ 7200) →
          ((s.takeDischarge stamp).pace.stable = true ↔ (s.takeDischarge stamp).pace.ring.length = 8 ∧
            ∀ x ∈ (s.takeDischarge stamp).pace.ring, ∀ y ∈ (s.takeDischarge stamp).pace.ring,
              (x - y) * 4 ≤ (s.takeDischarge stamp).pace.davg)) ∧
        (s.takeDischarge stamp).port = s.port)))

/-! ## Halts -/

/-- LINE_HALT and LINE_RESUME, refused MODE before START, and the accepted edges of ESTOP add and remove their own cause;
an edge before START only sets the pin. RELEASE_HOLDER, refused MODE, RANGE for a station outside the member set and STATE
for the own number, changes nothing for a member that is no holder and takes a holder out with HALT_OFF, a HALTED station
whose set is then empty returning to RUN with the resume creep period; no frame is sent (R91, R92, R98, R100). -/
def Obligations.HostAndEstopHoldTheLine : Prop :=
  (∀ s : State, s.portFree → s.started = false →
    exec .lineHalt s = refusedReply s 3 .mode ∧ exec .lineResume s = refusedReply s 3 .mode) ∧
  (∀ s : State, s.portFree → s.started = true →
    (∃ v, exec .lineHalt s = settledReply s 3 v .done ∧ State.causeAdded (s.taken 3) .host v) ∧
    (∃ v, exec .lineResume s = settledReply s 3 v .done ∧ State.causeRemoved (s.taken 3) .host v)) ∧
  (∀ s : State, s.started = true → s.pins.estop = false →
    ∃ v, exec .estopActive s = .next (finish { s with pins := { s.pins with estop := true } } v) ∧
      State.causeAdded { s with pins := { s.pins with estop := true } } .estop v) ∧
  (∀ s : State, s.started = true → s.pins.estop = true →
    ∃ v, exec .estopInactive s = .next (finish { s with pins := { s.pins with estop := false } } v) ∧
      State.causeRemoved { s with pins := { s.pins with estop := false } } .estop v) ∧
  (∀ s : State, s.started = false →
    exec .estopActive s = .next { s with pins := { s.pins with estop := true } } ∧
    exec .estopInactive s = .next { s with pins := { s.pins with estop := false } }) ∧
  (∀ (s : State) (station : Byte), s.portFree →
    (s.started = false → exec (.releaseHolder station) s = refusedReply s 4 .mode) ∧
    (s.started = true → s.params.isMember station.toNat = false →
      exec (.releaseHolder station) s = refusedReply s 4 .range) ∧
    (s.started = true → s.params.isMember station.toNat = true → station.toNat = s.params.stationNo →
      exec (.releaseHolder station) s = refusedReply s 4 .state) ∧
    (s.started = true → s.params.isMember station.toNat = true → station.toNat ≠ s.params.stationNo →
      (station.toNat ∉ s.halt.holders →
        exec (.releaseHolder station) s = settledReply s 4 (s.taken 4) .done) ∧
      (station.toNat ∈ s.halt.holders → s.line.mode ≠ .run →
        ∃ v, exec (.releaseHolder station) s = settledReply s 4 v .done ∧
          v = { s.taken 4 with
                halt := { s.halt with holders := s.halt.holders.filter fun m => m != station.toNat }
                line := { s.line with mode := v.line.mode }, creep := v.creep, port := v.port } ∧
          v.port = ((s.taken 4).report .haltOff
            (value := some (256 * station.toNat + holderSum v.halt.holders : Nat))).port ∧
          (s.line.mode = .halted → v.halt.holders = [] →
            v.line.mode = .run ∧
            v.creep = if s.params.resumeCreep = 0 then none else some (s.params.resumeCreep * 1000)) ∧
          (s.line.mode ≠ .halted ∨ v.halt.holders ≠ [] → v.line.mode = s.line.mode ∧ v.creep = s.creep))))


/-! ## Timers of the zones, the door and the cycle -/

/-- SECONDS_TICK advances the counter; while started every EXPECTED and LIVE record whose class age has passed its class's
limit falls one class with its stamp at this second, and Dreq is recomputed; nothing else changes but reports and what
follows (R11, R171). -/
def Obligations.SecondsTickDemotesAgedRecords : Prop :=
  (∀ s : State, s.started = false →
    exec .secondsTick s = .next { s with clk := { s.clk with seconds := s.clk.seconds + 1 } }) ∧
  (∀ s : State, s.started = true → (s.store.pool.map fun r => r.id).Nodup →
    ∃ u v, exec .secondsTick s = .next (finish u v) ∧ u = { s with clk := { s.clk with seconds := s.clk.seconds + 1 } } ∧
      v = { u with store := { s.store with pool := v.store.pool }, pace := v.pace, port := v.port } ∧
      v.store.pool = s.store.pool.map (fun r =>
        if r.status = .incoming then r
        else if r.cls = .hot ∧ 0 < s.params.hotLimit ∧ (s.params.hotLimit : Int) < u.now - r.classStamp then
          { r with cls := .warm, classStamp := signedStamp u.now }
        else if r.cls = .warm ∧ 0 < s.params.warmLimit ∧ (s.params.warmLimit : Int) < u.now - r.classStamp then
          { r with cls := .cold, classStamp := signedStamp u.now }
        else r) ∧
      v.pace.dreq = min (largestNeed u.now s.hearth.positions) 7200 ∧
      v.pace.saturated = decide (7200 < largestNeed u.now s.hearth.positions))

/-- MOVE_TIMEOUT of a zone of an internal move: while the sender is departing or SENDING both zones go to FAULT naming each
other; after stage 3 the receiving zone faults alone; a run-on reservation faults alone, the slab it was made for going on
to its rest position or, its rest edge passed, lying at rest; the occupants stay, and the report names the slab of the move,
before stage 3 the one whose move has claimed the receiving zone (R26, R36). The command acts with its timer at 0 and the
class below HELD, and does nothing else (log 2); the slab whose rest edge was passed rests (log 33); a zone that its sender's
fault has left behind times out alone and names the slab whose move it was, whatever lies before it now (logs 34, 67). -/
def Obligations.MoveTimeoutFaultsTheMove : Prop :=
  (∀ (s : State) (zone : ZoneIx) (a : Nat), s.started = true →
    s.motionExpired zone.val = true → s.crossingOut zone.val = false → s.crossingIn a = false →
    zone.val = a ∨ zone.val = a + 1 → a + 1 < s.zones.length →
    (s.zone a).state = .sending ∨ ((s.zone a).state = .occupied ∧ (s.zone a).departing = true) →
    (s.zone (a + 1)).state = .reserved ∨ (s.zone (a + 1)).state = .receiving →
    (s.zone (a + 1)).handleMoved = false →
    ∃ v, exec (.moveTimeout zone) s = .next (finish s v) ∧
      v = { s with zones := v.zones, door := v.door
                   port := (s.report .moveTimeout (some (a + 1)) (s.zone (a + 1)).claim).port } ∧
      (v.zone a).state = .fault ∧ (v.zone a).fault = some ⟨.moveTimeout, some (a + 1)⟩ ∧
      (v.zone (a + 1)).state = .fault ∧ (v.zone (a + 1)).fault = some ⟨.moveTimeout, some a⟩ ∧
      (v.zone a).occ = (s.zone a).occ ∧ (v.zone (a + 1)).occ = (s.zone (a + 1)).occ ∧
      ∀ j, j ≠ a → j ≠ a + 1 → v.zone j = s.zone j) ∧
  (∀ (s : State) (zone : ZoneIx), s.started = true →
    s.motionExpired zone.val = true → s.crossingIn zone.val = false →
    (s.zone zone.val).state = .receiving → (s.zone zone.val).handleMoved = true →
    ∃ v, exec (.moveTimeout zone) s = .next (finish s v) ∧
      v = { s with zones := v.zones, door := v.door,
                   port := (s.report .moveTimeout (some zone.val) (s.lastIn zone.val)).port } ∧
      (v.zone zone.val).state = .fault ∧ (v.zone zone.val).fault = some ⟨.moveTimeout, none⟩ ∧
      (v.zone zone.val).occ = (s.zone zone.val).occ ∧
      (∀ j, j ≠ zone.val → j ≠ zone.val + 1 → v.zone j = s.zone j) ∧
      (s.runOn zone.val = true → (v.zone (zone.val + 1)).state = .free) ∧
      (s.runOn zone.val = false → v.zone (zone.val + 1) = s.zone (zone.val + 1))) ∧
  (∀ (s : State) (zone : ZoneIx) (a : Nat), s.started = true → zone.val = a + 1 → a + 1 < s.zones.length →
    s.motionExpired (a + 1) = true → s.runOn a = true →
    ∃ v, exec (.moveTimeout zone) s = .next (finish s v) ∧
      (v.zone (a + 1)).state = .fault ∧ (v.zone (a + 1)).fault = some ⟨.moveTimeout, none⟩ ∧
      (v.zone a).occ = (s.zone a).occ ∧ (∀ j, j ≠ a → j ≠ a + 1 → v.zone j = s.zone j) ∧
      ((s.zone a).restPassed = false → v.zone a = s.zone a ∧
        v = { s with zones := v.zones, door := v.door
                     port := (s.report .moveTimeout (some (a + 1)) (s.lastIn a)).port }) ∧
      ((s.zone a).restPassed = true → (v.zone a).state = .occupied ∧ (v.zone a).departing = false)) ∧
  (∀ (s : State) (zone : ZoneIx) (a : Nat), s.started = true → zone.val = a + 1 → a + 1 < s.zones.length →
    s.motionExpired (a + 1) = true → (s.zone (a + 1)).state = .reserved ∨ (s.zone (a + 1)).state = .receiving →
    (s.zone (a + 1)).handleMoved = false → s.senderMoves (a + 1) = false →
    ∃ v, exec (.moveTimeout zone) s = .next (finish s v) ∧
      v = { s with zones := v.zones, door := v.door
                   port := (s.report .moveTimeout (some (a + 1)) (s.zone (a + 1)).claim).port } ∧
      (v.zone (a + 1)).state = .fault ∧ (v.zone (a + 1)).fault = some ⟨.moveTimeout, none⟩ ∧
      (v.zone (a + 1)).occ = (s.zone (a + 1)).occ ∧ ∀ j, j ≠ a + 1 → v.zone j = s.zone j) ∧
  (∀ (s : State) (zone : ZoneIx), s.started = true →
    (s.zone zone.val).timer ≠ some 0 ∨ s.serveClass zone.val = .held →
    exec (.moveTimeout zone) s = .next (finish s s))

/-- The timers of a handover: HANDOVER_BROKEN faults the exit zone alone and leaves the context RUNNING_OUT with its
record; HANDOVER_TIMEOUT faults the entry zone alone, deletes the INCOMING record and ends the incoming context;
OFFER_UNANSWERED ends the outgoing context with the offer bar and places a WITHDRAW where the station may transmit; each
with its report (R69, R80, R81, R82). Each acts with its timer at 0 and, for a crossing, a class below HELD, and does
nothing otherwise (log 2). -/
def Obligations.HandoverTimersEndTheirSide : Prop :=
  (∀ s : State, s.started = true → s.crossingOut s.exitZone = true → s.motionExpired s.exitZone = true →
    s.crossingIn s.exitZone = false →
    ∃ v, exec .handoverBroken s = .next (finish s v) ∧
      v = { s with zones := v.zones, door := v.door,
                   port := (s.report .handoverBroken (some s.exitZone) (some s.out.slab)).port } ∧
      (v.zone s.exitZone).state = .fault ∧ (v.zone s.exitZone).fault = some ⟨.handoverBroken, none⟩ ∧
      (v.zone s.exitZone).occ = (s.zone s.exitZone).occ ∧ ∀ j, j ≠ s.exitZone → v.zone j = s.zone j) ∧
  (∀ s : State, s.started = true → s.inc.state ≠ .idle → s.motionExpired 0 = true →
    ∃ v, exec .handoverTimeout s = .next (finish s v) ∧
      v = { s with store := { s.store with pool := s.store.pool.filter fun r => r.id != s.inc.slab }
                   zones := v.zones, inc := {}, door := v.door
                   port := (s.report .handoverTimeout (some 0) (some s.inc.slab)).port } ∧
      (v.zone 0).state = .fault ∧ (v.zone 0).fault = some ⟨.handoverTimeout, none⟩ ∧
      ∀ j, j ≠ 0 → j ≠ 1 ∨ s.runOn 0 = false →
        (v.zone j).state = (s.zone j).state ∧ (v.zone j).occ = (s.zone j).occ.filter (· != s.inc.slab)) ∧
  (∀ s : State, s.started = true → s.out.state = .offered → s.out.answer = some 0 →
    ∃ v, exec .offerUnanswered s = .next (finish s v) ∧
      v = { s with out := { s.out with state := .idle, answer := none, exitClear := false, offerBar := true }
                   line := { s.line with slots := v.line.slots }
                   port := (s.report .offerUnanswered (some s.exitZone) (some s.out.slab)).port } ∧
      (s.line.mayTransmit = true →
        v.line.slots.withdraw.map (fun f => f.content) = some (.withdraw s.out.tag (BitVec.ofNat 32 s.out.slab)) ∧
        v.line.slots = { s.line.slots with withdraw := v.line.slots.withdraw }) ∧
      (s.line.mayTransmit = false → v.line.slots = s.line.slots)) ∧
  (∀ s : State, s.started = true →
    (s.crossingOut s.exitZone = false ∨ s.motionExpired s.exitZone = false →
      exec .handoverBroken s = .next (finish s s)) ∧
    (s.inc.state = .idle ∨ s.motionExpired 0 = false → exec .handoverTimeout s = .next (finish s s)) ∧
    (s.out.state ≠ .offered ∨ s.out.answer ≠ some 0 → exec .offerUnanswered s = .next (finish s s)))

/-- DRIVE_STALL faults the door zone, with the approach zone as partner while the slab enters from it, ends the placement
and releases a run-on; PAIR_WAIT_EXPIRY abandons the pair with cause 3 in RUN: the first slab becomes a SINGLE, POSITIONED
where it lies with the off-centre flag, its offset reported (R119, R132, R134). Each acts with its timer at 0 and does
nothing otherwise (log 2), the pair wait's with the door zone in FAULT too (log 32); the slab a stall names is log 53's. -/
def Obligations.DoorTimersFaultOrAbandon : Prop :=
  (∀ (s : State) (g : Group), s.started = true → s.params.hasFurnace = true →
    (if g = .near then s.door.stallNear else s.door.stallFar) = some 0 →
    1 ≤ s.params.doorZone → s.params.doorZone < s.zones.length →
    (s.entering = true → s.crossingIn (s.params.doorZone - 1) = false ∧ s.runOn (s.params.doorZone - 1) = false) →
    ∃ v, exec (.driveStall g) s = .next (finish s v) ∧
      v = { s with zones := v.zones, door := v.door,
                   port := (s.report .driveStall (some s.params.doorZone) s.movedSlab
                     (some (if g = .near then 1 else 2))).port } ∧
      v.doorEntry.state = .fault ∧ v.doorEntry.occ = s.doorEntry.occ ∧
      v.door = { s.door with phase := .idle, placing := none, suspended := false, still := none } ∧
      (s.entering = true → v.doorEntry.fault = some ⟨.driveStall, some (s.params.doorZone - 1)⟩ ∧
        (v.zone (s.params.doorZone - 1)).state = .fault ∧
        (v.zone (s.params.doorZone - 1)).fault = some ⟨.driveStall, some s.params.doorZone⟩ ∧
        (v.zone (s.params.doorZone - 1)).occ = (s.zone (s.params.doorZone - 1)).occ) ∧
      (s.entering = false → v.doorEntry.fault = some ⟨.driveStall, none⟩ ∧
        v.zone (s.params.doorZone - 1) = s.zone (s.params.doorZone - 1)) ∧
      (s.runOn s.params.doorZone = true → (v.zone (s.params.doorZone + 1)).state = .free) ∧
      ∀ j, j ≠ s.params.doorZone → j ≠ s.params.doorZone - 1 →
        j ≠ s.params.doorZone + 1 ∨ s.runOn s.params.doorZone = false → v.zone j = s.zone j) ∧
  (∀ s : State, s.entering = true ↔ (s.zone (s.params.doorZone - 1)).departing = true ∨
    (s.zone (s.params.doorZone - 1)).state = .sending) ∧
  (∀ s : State, s.movedSlab = match s.door.placing with
    | some id => some id
    | none => if s.entering = true then (s.zone (s.params.doorZone - 1)).occ.getLast? else s.doorEntry.occ.getLast?) ∧
  (∀ (s : State) (id : Nat) (rest : List Nat) (t : Track), s.started = true → s.line.mode = .run →
    s.door.substate = .pairWait → s.door.pairTimer = some 0 → s.doorEntry.state ≠ .fault →
    s.doorEntry.occ = id :: rest → s.door.find? id = some t →
    ∃ v, exec .pairWaitExpiry s = .next (finish s v) ∧
      v = { s with
        door := { s.door with substate := .positioned, pairTimer := none, offCentre := true, tracks := v.door.tracks }
        port := ((s.report .pairAbandoned (some s.params.doorZone) (some id) (some 3)).report .offCentreCharge
          (some s.params.doorZone) (some id)
          (some ((trackPosition s.params t : Int) - ((s.lengthOf id + 1) / 2 : Nat) - (s.params.doorAxis : Nat)))).port } ∧
      v.door.find? id = some { t with role := .single
                                      target := some (min (s.params.doorAxis + (s.lengthOf id + 1) / 2)
                                        s.params.doorLength) } ∧
      ∀ x, x ≠ id → v.door.find? x = s.door.find? x) ∧
  (∀ (s : State) (g : Group), s.started = true →
    ((if g = .near then s.door.stallNear else s.door.stallFar) ≠ some 0 →
      exec (.driveStall g) s = .next (finish s s)) ∧
    (s.line.mode ≠ .run ∨ s.door.substate ≠ .pairWait ∨ s.door.pairTimer ≠ some 0 ∨ s.doorEntry.state = .fault →
      exec .pairWaitExpiry s = .next (finish s s)))

/-- SLAB_STILL measures the error of the slab being placed: within POS_TOL the placement ends with the door zone at rest,
PAIR_WAIT with its timer for a pair first alone and POSITIONED otherwise; out of it a correction runs forward for a slab
that lies short and in reverse for one that has gone past, at most twice, and then the zone goes to FAULT POSITION_FAULT
with the error (R128, R129, R130, R132). A resumed placement of an OCCUPIED door zone goes on with another occupant out of
tolerance and restarts no motion timer (log 36), and a resumed pair first beside a second occupant ends POSITIONED (log 81);
the command acts with its timer at 0 and not otherwise (log 2). -/
def Obligations.StillSlabIsPlacedCorrectedOrFaulted : Prop :=
  (∀ (s : State) (id : Nat) (t : Track), s.started = true → s.params.hasFurnace = true → s.door.phase = .stopping →
    s.door.suspended = false → s.door.still = some 0 → s.door.placing = some id → s.door.find? id = some t →
    s.doorEntry.state = .receiving ∨ s.doorEntry.state = .occupied → 1 ≤ s.params.doorZone →
    s.params.doorZone < s.zones.length →
    ∃ v, exec .slabStill s = .next (finish s v) ∧
      v = { s with zones := v.zones, door := v.door, port := v.port } ∧
      v.door.lastError = some ((trackPosition s.params t : Int) - (t.target.getD 0 : Nat)) ∧
      (∀ j, j ≠ s.params.doorZone → j ≠ s.params.doorZone + 1 ∨ s.runOn s.params.doorZone = false →
        v.zone j = s.zone j) ∧ v.doorEntry.occ = s.doorEntry.occ ∧
      ((trackError s.params t).natAbs ≤ s.params.posTol →
        v.doorEntry.state = .occupied ∧ v.doorEntry.departing = false ∧ v.port = s.port ∧
        v.door.find? id = some { t with placedAt := some (trackPosition s.params t) } ∧
        (s.doorEntry.state = .receiving ∨
            (∀ x ∈ s.door.tracks, x.id ∈ s.doorEntry.occ → (trackError s.params x).natAbs ≤ s.params.posTol) →
          v.door.placing = none ∧ v.door.phase = .idle ∧
          (t.role = .pairFirst → s.doorEntry.occ.length ≤ 1 →
            v.door.substate = .pairWait ∧ v.door.pairTimer = some (s.params.pairTimeout * 1000)) ∧
          (t.role ≠ .pairFirst ∨ 1 < s.doorEntry.occ.length → v.door.substate = .positioned)) ∧
        (∀ x, s.doorEntry.state = .occupied →
          s.door.tracks.find? (fun y => decide (s.params.posTol < (trackError s.params y).natAbs) &&
            s.doorEntry.occ.contains y.id) = some x →
          v.door.placing = some x.id ∧ v.door.substate = .positioning)) ∧
      (s.params.posTol < (trackError s.params t).natAbs → t.corrections < 2 →
        v.doorEntry.state = s.doorEntry.state ∧ v.port = s.port ∧ v.door.placing = some id ∧
        v.door.phase = (if trackError s.params t < 0 then .correcting .forward else .correcting .reverse) ∧
        v.door.find? id = some { t with corrections := t.corrections + 1 } ∧
        v.doorEntry.timer =
          if s.doorEntry.state = .receiving then some s.params.motionTimeout else s.doorEntry.timer) ∧
      (s.params.posTol < (trackError s.params t).natAbs → 2 ≤ t.corrections →
        v.doorEntry.state = .fault ∧ v.doorEntry.fault = some ⟨.positionFault, none⟩ ∧ v.door.placing = none ∧
        v.port = (s.report .positionFault (some s.params.doorZone) (some id) (some (trackError s.params t))).port)) ∧
  (∀ s : State, s.started = true → s.door.phase ≠ .stopping ∨ s.door.suspended = true ∨ s.door.still ≠ some 0 →
    exec .slabStill s = .next (finish s s))

/-- The cycle timer expiring in RUN: a door fault at opening returns the cycle to IDLE with the slabs POSITIONED; a push
timeout enters LIMBO with the charge kept; a retract timeout is BAR_FAULT; a door fault at closing returns the cycle to
IDLE, faulting with the door zone the other zone of a move it takes part in; each with its kind and its report; a run-on
from a zone that faults is released (R139, R143, R145, R147, R148). An expiry acts in RUN with the timer at 0 in its own
cycle state and does nothing otherwise (log 2). The cycle's values back in IDLE are log 61's. -/
def Obligations.CycleTimeoutsFaultTheDoorZone : Prop :=
  (∀ s : State, s.started = true → s.params.hasFurnace = true → s.line.mode = .run → s.cycle.timer = some 0 →
    1 ≤ s.params.doorZone → s.params.doorZone < s.zones.length →
    (s.cycle.state = .doorOpening →
      ∃ v, exec .doorTimeoutOpening s = .next (finish s v) ∧
        v = { s with zones := v.zones, door := v.door, cycle := { setpoint := s.cycle.setpoint }
                     port := (s.report .doorFault (some s.params.doorZone) s.cycle.charge.head? (some 1)).port } ∧
        v.doorEntry.state = .fault ∧ v.doorEntry.fault = some ⟨.doorFault, none⟩ ∧
        v.doorEntry.occ = s.doorEntry.occ ∧ v.door.substate = .positioned ∧
        ∀ j, j ≠ s.params.doorZone → j = 0 ∨ s.runOn (j - 1) = false → v.zone j = s.zone j) ∧
    (s.cycle.state = .pushing →
      ∃ v, exec .pushTimeout s = .next (finish s v) ∧
        v = { s with zones := v.zones, door := v.door
                     cycle := { s.cycle with state := .limbo, timer := none, limbo := some .pushTimeout
                                             latePush := false }
                     port := (s.report .pushFault (some s.params.doorZone) s.cycle.charge.head? (some 2)).port } ∧
        v.doorEntry.state = .fault ∧ v.doorEntry.fault = some ⟨.pushFault, none⟩ ∧
        v.doorEntry.occ = s.doorEntry.occ ∧ v.door.substate = s.door.substate ∧
        ∀ j, j ≠ s.params.doorZone → j = 0 ∨ s.runOn (j - 1) = false → v.zone j = s.zone j) ∧
    (s.cycle.state = .retracting →
      ∃ v, exec .barFault s = .next (finish s v) ∧
        v = { s with zones := v.zones, door := v.door, cycle := { s.cycle with timer := none }
                     port := (s.report .barFault (some s.params.doorZone) s.cycle.charge.head?).port } ∧
        v.doorEntry.state = .fault ∧ v.doorEntry.fault = some ⟨.barFault, none⟩ ∧
        v.doorEntry.occ = s.doorEntry.occ ∧ v.door.substate = s.door.substate ∧
        ∀ j, j ≠ s.params.doorZone → j = 0 ∨ s.runOn (j - 1) = false → v.zone j = s.zone j) ∧
    (s.cycle.state = .doorClosing → (∀ j, s.doorMovePartner = some j → s.crossingIn j = false) →
      ∃ v, exec .doorTimeoutClosing s = .next (finish s v) ∧
        v = { s with zones := v.zones, door := v.door, cycle := { setpoint := s.cycle.setpoint }
                     port := (s.report .doorFault (some s.params.doorZone) s.doorEntry.occ.head? (some 2)).port } ∧
        v.doorEntry.state = .fault ∧ v.doorEntry.fault = some ⟨.doorFault, s.doorMovePartner⟩ ∧
        v.doorEntry.occ = s.doorEntry.occ ∧ v.door.substate = s.door.substate ∧
        (∀ j, s.doorMovePartner = some j → j < s.zones.length →
          (v.zone j).state = .fault ∧ (v.zone j).fault = some ⟨.doorFault, some s.params.doorZone⟩ ∧
          (s.runOn s.params.doorZone = false → (v.zone j).occ = (s.zone j).occ)) ∧
        ∀ j, j ≠ s.params.doorZone → s.doorMovePartner ≠ some j → j = 0 ∨ s.runOn (j - 1) = false →
          v.zone j = s.zone j)) ∧
  (∀ s : State, s.doorMovePartner =
    if (s.doorEntry.state = .reserved ∨ (s.doorEntry.state = .receiving ∧ s.doorEntry.handleMoved = false)) ∧
        s.senderMoves s.params.doorZone = true then some (s.params.doorZone - 1)
    else if s.params.doorZone < s.exitZone ∧ (s.doorEntry.departing = true ∨ s.doorEntry.state = .sending ∨
        s.runOn s.params.doorZone = true) then some (s.params.doorZone + 1)
    else none) ∧
  (∀ s : State, s.started = true → s.line.mode ≠ .run ∨ s.cycle.timer ≠ some 0 →
    exec .doorTimeoutOpening s = .next (finish s s) ∧ exec .pushTimeout s = .next (finish s s) ∧
    exec .barFault s = .next (finish s s) ∧ exec .doorTimeoutClosing s = .next (finish s s)) ∧
  (∀ s : State, s.started = true →
    (s.cycle.state ≠ .doorOpening → exec .doorTimeoutOpening s = .next (finish s s)) ∧
    (s.cycle.state ≠ .pushing → exec .pushTimeout s = .next (finish s s)) ∧
    (s.cycle.state ≠ .retracting → exec .barFault s = .next (finish s s)) ∧
    (s.cycle.state ≠ .doorClosing → exec .doorTimeoutClosing s = .next (finish s s)))


/-! ## Field inputs -/

/-- An accepted rising edge of an entry sensor sets its level and its stamp, and by the zone's state it is the leading edge
of an internal move or of a crossing, makes a FREE zone without landing UNKNOWN, starts the tracked count of the slab that
enters the door zone, faults a reverse correction, or does no more (R20, R25, R35, R75, R117, R125, R129). That an edge at
the level already held does nothing, and one before START only sets the pin, is log 3; the tracked count's start from the
near encoder is log 4. -/
def Obligations.EntrySensorRises : Prop :=
  (∀ (s : State) (zone : ZoneIx) (stamp : Word), (s.zonePins zone.val).entry = true →
    exec (.entrySensorRise zone stamp) s = .next s) ∧
  (∀ (s u : State) (zone : ZoneIx) (stamp : Word), (s.zonePins zone.val).entry = false →
    u = s.modPins zone.val (fun p => { p with entry := true, entryStamp := some stamp }) →
    (s.started = false ∨ s.zones.length ≤ zone.val → exec (.entrySensorRise zone stamp) s = .next u) ∧
    (s.started = true → zone.val < s.zones.length →
      (s.isDoor zone.val = false → (s.zone zone.val).state = .reserved → s.crossingIn zone.val = false →
        ∀ a, zone.val = a + 1 → (s.zone a).departing = true ∨ (s.zone a).state = .sending ∨ s.runOn a = true →
        ∃ v, exec (.entrySensorRise zone stamp) s = .next (finish u v) ∧ v = { u with zones := v.zones } ∧
          (v.zone zone.val).state = .receiving ∧ (v.zone zone.val).handleMoved = false ∧
          (s.pins.zones.length = 6 → (v.zone zone.val).passage = some stamp) ∧
          (v.zone zone.val).timer = some s.params.motionTimeout ∧ (v.zone zone.val).occ = (s.zone zone.val).occ ∧
          (v.zone zone.val).claim = (s.zone zone.val).claim ∧
          (v.zone a).state = .sending ∧ (v.zone a).departing = false ∧
          (v.zone a).timer = some s.params.motionTimeout ∧ (v.zone a).occ = (s.zone a).occ ∧
          ∀ j, j ≠ a → j ≠ zone.val → v.zone j = s.zone j) ∧
      (zone.val = 0 → s.isDoor 0 = false → (s.zone 0).state = .reserved → s.inc.state ≠ .idle →
        ∃ v, exec (.entrySensorRise zone stamp) s = .next (finish u v) ∧
          v = { u with zones := v.zones, inc := { s.inc with state := .receiving } } ∧
          (v.zone 0).state = .receiving ∧ (v.zone 0).timer = some s.params.motionTimeout ∧
          (s.pins.zones.length = 6 → (v.zone 0).passage = some stamp) ∧
          ∀ j, j ≠ 0 → v.zone j = s.zone j) ∧
      ((s.zone zone.val).state = .free → (s.zone zone.val).landing = false →
        s.isDoor zone.val = false ∨ s.door.phase ≠ .correcting .reverse ∨ s.door.placing = none →
        ∃ v, exec (.entrySensorRise zone stamp) s = .next (finish u v) ∧
          v = { u with zones := v.zones, port := (s.report .unknownPresence (some zone.val)).port } ∧
          (v.zone zone.val).state = .unknown ∧ ∀ j, j ≠ zone.val → v.zone j = s.zone j) ∧
      (s.isDoor zone.val = false ∨
          (((s.zone (zone.val - 1)).departing = false ∨
              ((s.zone zone.val).state ≠ .reserved ∧ (s.zone zone.val).state ≠ .receiving)) ∧
            (s.door.phase ≠ .correcting .reverse ∨ s.door.placing = none)) →
        ((s.zone zone.val).state ≠ .reserved →
          (s.zone zone.val).state ≠ .free ∨ (s.zone zone.val).landing = true →
          exec (.entrySensorRise zone stamp) s = .next (finish u u)) ∧
        ((s.zone zone.val).state = .reserved → s.crossingIn zone.val = false → s.senderMoves zone.val = false →
          exec (.entrySensorRise zone stamp) s = .next (finish u u))) ∧
      (∀ (a id : Nat) (t : Track), s.isDoor zone.val = true → zone.val = a + 1 → (s.zone a).departing = true →
        (s.zone zone.val).state = .reserved ∨ (s.zone zone.val).state = .receiving →
        s.lastIn a = some id → s.door.find? id = some t →
        ∃ v, exec (.entrySensorRise zone stamp) s = .next (finish u v) ∧
          v = { u with zones := v.zones, door := v.door } ∧
          (v.zone zone.val).state = .receiving ∧ (v.zone a).state = .sending ∧
          (∃ t', v.door.find? id = some t' ∧ t'.count = pulsesAfter s.door.nearLog stamp ∧ t'.counting = true ∧
            t'.role = t.role ∧ t'.target = t.target) ∧
          v.door.riseCount = some (s.door.nearCount - pulsesAfter s.door.nearLog stamp)) ∧
      (∀ id, s.isDoor zone.val = true → 1 ≤ zone.val →
        (s.zone (zone.val - 1)).departing = false ∨
          ((s.zone zone.val).state ≠ .reserved ∧ (s.zone zone.val).state ≠ .receiving) →
        s.door.phase = .correcting .reverse → s.door.placing = some id →
        ∃ v, exec (.entrySensorRise zone stamp) s = .next (finish u v) ∧
          v = { u with zones := v.zones, door := v.door,
                       port := (s.report .positionFault (some zone.val) (some id) s.door.lastError).port } ∧
          (v.zone zone.val).state = .fault ∧ (v.zone zone.val).fault = some ⟨.positionFault, none⟩)))

/-- An accepted falling edge of an entry sensor clears its level, and by the zone's state it moves the handle of an internal
move, is the arrival of a crossing, moves the handle into the door zone with a length measurement, frees an UNKNOWN zone
whose sensors are both low, or does no more. A slab that enters an ordinary zone is granted run-on there when the next zone
is FREE, its routing says onward and its class is below HELD, with the leading edge at once where the next entry sensor is
high; an arriving slab is tested for it as FollowOnKeepsItsFrame gives State.testRunOn; a passing slab in the door zone
likewise; and a slab placed there begins its final approach, stopped at once where its stopping position is reached
(R12, R25, R27, R35, R76, R120, R124, R125, R128). That an edge at the level already held does nothing, and one before START
only sets the pin, is log 3; the length's count from the near encoder is log 4. -/
def Obligations.EntrySensorFalls : Prop :=
  (∀ (s : State) (zone : ZoneIx) (stamp : Word), (s.zonePins zone.val).entry = false →
    exec (.entrySensorFall zone stamp) s = .next s) ∧
  (∀ (s u : State) (zone : ZoneIx) (stamp : Word), (s.zonePins zone.val).entry = true →
    u = s.modPins zone.val (fun p => { p with entry := false }) →
    (s.started = false ∨ s.zones.length ≤ zone.val → exec (.entrySensorFall zone stamp) s = .next u) ∧
    (s.started = true → zone.val < s.zones.length →
      (∀ a id, s.isDoor zone.val = false → s.crossingIn zone.val = false → zone.val = a + 1 →
        (s.zone zone.val).state = .receiving → (s.zone zone.val).handleMoved = false →
        (s.zone a).state = .sending → s.lastIn a = some id →
        ∃ v, exec (.entrySensorFall zone stamp) s = .next (finish u v) ∧
          v = { u with zones := v.zones, door := v.door } ∧
          (v.zone a).state = .free ∧ (v.zone a).occ = [] ∧ (v.zone zone.val).occ = (s.zone zone.val).occ ++ [id] ∧
          (v.zone zone.val).timer = some s.params.motionTimeout ∧ (v.zone zone.val).claim = none ∧
          (zone.val + 1 = s.zones.length ∨ s.isApproach zone.val = true ∨ (s.zone (zone.val + 1)).state ≠ .free ∨
              s.onward id zone.val = false ∨ s.pairClass id zone.val = .held →
            (v.zone zone.val).state = .receiving ∧ (v.zone zone.val).handleMoved = true ∧
            ∀ j, j ≠ a → j ≠ zone.val → v.zone j = s.zone j) ∧
          (zone.val + 1 < s.zones.length → s.isApproach zone.val = false → (s.zone (zone.val + 1)).state = .free →
              s.onward id zone.val = true → s.pairClass id zone.val ≠ .held →
            (v.zone (zone.val + 1)).timer = some s.params.motionTimeout ∧
            (v.zone (zone.val + 1)).claim = some id ∧ (v.zone (zone.val + 1)).departing = false ∧
            (v.zone (zone.val + 1)).occ = (s.zone (zone.val + 1)).occ ∧
            (∀ j, j ≠ a → j ≠ zone.val → j ≠ zone.val + 1 → v.zone j = s.zone j) ∧
            (s.entryHigh (zone.val + 1) = false → (v.zone zone.val).state = .receiving ∧
              (v.zone (zone.val + 1)).state = .reserved ∧ v.runOn zone.val = true) ∧
            (s.entryHigh (zone.val + 1) = true → (v.zone zone.val).state = .sending ∧
              (v.zone (zone.val + 1)).state = .receiving ∧ (v.zone (zone.val + 1)).handleMoved = false))) ∧
      (zone.val = 0 → s.inc.state = .receiving → (s.zone 0).state = .receiving →
        ∃ v w : State, exec (.entrySensorFall zone stamp) s = .next (finish u v) ∧ v = w.testRunOn 0 ∧
          w = { u with store := { s.store with pool := w.store.pool }, zones := w.zones, inc := {}
                       line := { s.line with slots := w.line.slots }
                       port := ((s.report .arrivedIn (some 0) (some s.inc.slab)).watchHit s.inc.slab (some 0) 2).port } ∧
          (∀ r, s.record? s.inc.slab = some r → w.record? s.inc.slab = some { r with status := .live }) ∧
          (∀ x, x ≠ s.inc.slab → w.record? x = s.record? x) ∧
          w.zone 0 = { s.zone 0 with occ := (s.zone 0).occ ++ [s.inc.slab], handleMoved := true
                                     timer := some s.params.motionTimeout } ∧
          (∀ j, j ≠ 0 → w.zone j = s.zone j) ∧
          (s.line.mayTransmit = true →
            w.line.slots.arrived.map (fun f => f.content) =
              some (.arrived s.inc.tag (BitVec.ofNat 32 s.inc.slab)) ∧
            w.line.slots = { s.line.slots with arrived := w.line.slots.arrived }) ∧
          (s.line.mayTransmit = false → w.line.slots = s.line.slots)) ∧
      (∀ a id, s.isDoor zone.val = true → zone.val = a + 1 → s.crossingIn zone.val = false →
        (s.zone zone.val).state = .receiving → (s.zone zone.val).handleMoved = false →
        (s.zone a).state = .sending → s.lastIn a = some id →
        ∃ v w : State, exec (.entrySensorFall zone stamp) s = .next (finish u v) ∧
          -- the handle and the measurement
          w = { u with store := { s.store with pool := w.store.pool }, zones := w.zones
                       door := { s.door with tracks := w.door.tracks, riseCount := none }, port := w.port } ∧
          (w.zone a).state = .free ∧ (w.zone a).occ = [] ∧
          w.zone zone.val = { s.zone zone.val with occ := (s.zone zone.val).occ ++ [id], handleMoved := true
                                                   claim := none, timer := some s.params.motionTimeout } ∧
          (∀ j, j ≠ a → j ≠ zone.val → w.zone j = s.zone j) ∧
          (∀ t, s.door.find? id = some t → ∃ t', w.door.find? id = some t' ∧ t'.handleMoved = true ∧
            t'.role = t.role ∧ t'.count = t.count ∧ t'.corrections = t.corrections ∧ t'.encoder = t.encoder) ∧
          (∀ x, x ≠ id → w.door.find? x = s.door.find? x ∧ w.record? x = s.record? x) ∧
          (s.door.riseCount = none → w.store = s.store ∧ w.port = s.port) ∧
          (∀ r rise, s.record? id = some r → s.door.riseCount = some rise → ∃ len : Nat,
            len = min ((s.door.nearCountAt stamp - rise).toNat * 1000 / s.params.encPpm) 9999 ∧
            w.record? id = some { r with
              measured := some len
              holds := { r.holds with
                lengthMismatch := decide (s.params.lengthTol < ((len : Int) - (r.nominal : Nat)).natAbs) } } ∧
            (s.params.lengthTol < ((len : Int) - (r.nominal : Nat)).natAbs →
              w.port =
                (s.report .lengthMismatch (some zone.val) (some id) (some ((len : Int) - (r.nominal : Nat)))).port) ∧
            (((len : Int) - (r.nominal : Nat)).natAbs ≤ s.params.lengthTol → w.port = s.port)) ∧
          -- the final approach of a slab placed here
          (∀ t, s.door.placing = some id → w.door.find? id = some t →
            v = { w with door := { w.door with phase := v.door.phase, still := v.door.still } } ∧
            (s.door.suspended = false →
                t.target.getD 0 ≤ min (t.count.toNat * 1000 / s.params.encPpm) s.params.doorLength + s.params.runout →
              v.door.phase = .stopping ∧ v.door.still = some 500) ∧
            (s.door.suspended = true ∨
                min (t.count.toNat * 1000 / s.params.encPpm) s.params.doorLength + s.params.runout < t.target.getD 0 →
              v.door.phase = .approach ∧ v.door.still = s.door.still)) ∧
          (s.door.placing = some id → w.door.find? id = none →
            v = { w with door := { w.door with phase := .approach } }) ∧
          -- the onward move of a passing slab
          (s.door.placing ≠ some id → w.runOnReady zone.val = false → v = w) ∧
          (s.door.placing ≠ some id → w.runOnReady zone.val = true →
            v = { w with zones := v.zones } ∧ (v.zone zone.val).occ = (w.zone zone.val).occ ∧
            (v.zone (zone.val + 1)).timer = some s.params.motionTimeout ∧
            (v.zone (zone.val + 1)).claim = (w.zone zone.val).occ.getLast? ∧
            (∀ j, j ≠ zone.val → j ≠ zone.val + 1 → v.zone j = w.zone j) ∧
            (s.entryHigh (zone.val + 1) = false → v.zone zone.val = { w.zone zone.val with runOnGranted := true } ∧
              (v.zone (zone.val + 1)).state = .reserved) ∧
            (s.entryHigh (zone.val + 1) = true → (v.zone zone.val).state = .sending ∧
              (v.zone (zone.val + 1)).state = .receiving))) ∧
      ((s.zone zone.val).state = .unknown → (s.zone zone.val).landing = false → s.crossingIn zone.val = false →
        ((s.zonePins zone.val).rest = false →
          ∃ v, exec (.entrySensorFall zone stamp) s = .next (finish u v) ∧
            v = { u with zones := v.zones, port := (s.report .lifted (some zone.val)).port } ∧
            (v.zone zone.val).state = .free ∧ ∀ j, j ≠ zone.val → v.zone j = s.zone j) ∧
        ((s.zonePins zone.val).rest = true → exec (.entrySensorFall zone stamp) s = .next (finish u u))) ∧
      ((s.zone zone.val).state = .unknown → (s.zone zone.val).landing = true →
        exec (.entrySensorFall zone stamp) s = .next (finish u u)) ∧
      ((s.zone zone.val).state ≠ .receiving → (s.zone zone.val).state ≠ .unknown →
        exec (.entrySensorFall zone stamp) s = .next (finish u u)) ∧
      (s.crossingIn zone.val = true → s.inc.state ≠ .receiving ∨ (s.zone zone.val).state ≠ .receiving →
        exec (.entrySensorFall zone stamp) s = .next (finish u u)) ∧
      (s.crossingIn zone.val = false → (s.zone zone.val).state = .receiving →
        (s.zone zone.val).handleMoved = true ∨ (s.zone (zone.val - 1)).state ≠ .sending ∨
          s.lastIn (zone.val - 1) = none →
        exec (.entrySensorFall zone stamp) s = .next (finish u u))))

/-- An accepted edge of a rest sensor sets its level. Rising, it ends a move with the zone OCCUPIED at rest and its last
transit, is passed over under run-on, faults an overhang, makes a FREE zone without landing UNKNOWN, or does no more.
Falling, it clears the exit of a crossing, faults a slab that has moved at rest, frees an UNKNOWN zone whose sensors are
both low, or does no more (R20, R25, R27, R35, R74, R75). The transit is that of the passage the zone received, whatever rises
at the entry sensor since. That an edge at the level already held does nothing, and one before START only sets the pin, is
log 3. -/
def Obligations.RestSensorEdges : Prop :=
  (∀ (s : State) (zone : ZoneIx) (stamp : Word),
    ((s.zonePins zone.val).rest = true → exec (.restSensorRise zone stamp) s = .next s) ∧
    ((s.zonePins zone.val).rest = false → exec (.restSensorFall zone) s = .next s)) ∧
  (∀ (s u : State) (zone : ZoneIx) (stamp : Word), (s.zonePins zone.val).rest = false →
    u = s.modPins zone.val (fun p => { p with rest := true, restStamp := some stamp }) →
    (s.started = false ∨ s.zones.length ≤ zone.val → exec (.restSensorRise zone stamp) s = .next u) ∧
    (s.started = true → zone.val < 6 → zone.val < s.zones.length → s.pins.zones.length = 6 →
      ((s.zone zone.val).state = .receiving →
        s.isDoor zone.val = false ∨ (s.door.placing = none ∧ s.door.substate = .empty) →
        ((s.zone zone.val).handleMoved = true → s.runOn zone.val = false →
          ∃ v, exec (.restSensorRise zone stamp) s = .next (finish u v) ∧
            v = { u with store := { s.store with pool := v.store.pool }, zones := v.zones, port := v.port } ∧
            (v.zone zone.val).state = .occupied ∧ (v.zone zone.val).departing = false ∧
            (v.zone zone.val).timer = none ∧ (v.zone zone.val).occ = (s.zone zone.val).occ ∧
            (v.zone zone.val).lastTransit = (match (s.zone zone.val).passage with
              | some e => some (stamp - e).toNat
              | none => (s.zone zone.val).lastTransit) ∧
            (∀ j, j ≠ zone.val → v.zone j = s.zone j) ∧
            v.store.pool.map (fun r => (r.id, r.dest)) = s.store.pool.map (fun r => (r.id, r.dest))) ∧
        ((s.zone zone.val).handleMoved = true → s.runOn zone.val = true →
          exec (.restSensorRise zone stamp) s =
            .next (finish u { u with zones := s.zones.set zone.val { s.zone zone.val with restPassed := true } })) ∧
        (∀ a, (s.zone zone.val).handleMoved = false → s.crossingIn zone.val = false → zone.val = a + 1 →
          (s.zone a).state = .sending → s.crossingIn a = false →
          ∃ v, exec (.restSensorRise zone stamp) s = .next (finish u v) ∧
            v = { u with zones := v.zones, door := v.door
                         port := (s.report .slabOverhang (some zone.val) (s.lastIn a)).port } ∧
            (v.zone a).state = .fault ∧ (v.zone a).fault = some ⟨.slabOverhang, some zone.val⟩ ∧
            (v.zone zone.val).state = .fault ∧ (v.zone zone.val).fault = some ⟨.slabOverhang, some a⟩ ∧
            (v.zone a).occ = (s.zone a).occ ∧ ∀ j, j ≠ a → j ≠ zone.val → v.zone j = s.zone j) ∧
        ((s.zone zone.val).handleMoved = false → s.crossingIn zone.val = true →
          ∃ v, exec (.restSensorRise zone stamp) s = .next (finish u v) ∧
            v = { u with store := { s.store with pool := s.store.pool.filter fun r => r.id != s.inc.slab }
                         zones := v.zones, door := v.door, inc := {}
                         port := (s.report .slabOverhang (some zone.val) (some s.inc.slab)).port } ∧
            (v.zone zone.val).state = .fault ∧ (v.zone zone.val).fault = some ⟨.slabOverhang, none⟩) ∧
        ((s.zone zone.val).handleMoved = false → s.crossingIn zone.val = false →
          zone.val = 0 ∨ (s.zone (zone.val - 1)).state ≠ .sending →
          exec (.restSensorRise zone stamp) s = .next (finish u u))) ∧
      ((s.zone zone.val).state = .receiving → s.isDoor zone.val = true →
        s.door.placing ≠ none ∨ s.door.substate ≠ .empty →
        exec (.restSensorRise zone stamp) s = .next (finish u u)) ∧
      ((s.zone zone.val).state = .free → (s.zone zone.val).landing = false →
        ∃ v, exec (.restSensorRise zone stamp) s = .next (finish u v) ∧
          v = { u with zones := v.zones, port := (s.report .unknownPresence (some zone.val)).port } ∧
          (v.zone zone.val).state = .unknown ∧ ∀ j, j ≠ zone.val → v.zone j = s.zone j) ∧
      ((s.zone zone.val).state ≠ .receiving → (s.zone zone.val).state ≠ .free ∨ (s.zone zone.val).landing = true →
        exec (.restSensorRise zone stamp) s = .next (finish u u)))) ∧
  (∀ (s u : State) (zone : ZoneIx), (s.zonePins zone.val).rest = true →
    u = s.modPins zone.val (fun p => { p with rest := false }) →
    (s.started = false ∨ s.zones.length ≤ zone.val → exec (.restSensorFall zone) s = .next u) ∧
    (s.started = true → zone.val < s.zones.length →
      (s.crossingOut zone.val = true →
        exec (.restSensorFall zone) s = .next (finish u { u with out := { s.out with exitClear := true } })) ∧
      (∀ id rest, (s.zone zone.val).state = .occupied → (s.zone zone.val).departing = false →
        (s.zone zone.val).landing = false → (s.zone zone.val).occ = id :: rest →
        s.isDoor zone.val = false ∨ s.door.substate = .empty → s.crossingIn zone.val = false →
        ∃ v, exec (.restSensorFall zone) s = .next (finish u v) ∧
          v = { u with zones := v.zones, door := v.door, port := (s.report .slabDisplaced (some zone.val) (some id)).port } ∧
          (v.zone zone.val).state = .fault ∧ (v.zone zone.val).fault = some ⟨.slabDisplaced, none⟩ ∧
          (v.zone zone.val).occ = id :: rest ∧ ∀ j, j ≠ zone.val → v.zone j = s.zone j) ∧
      ((s.zone zone.val).state = .unknown → (s.zone zone.val).landing = false →
        (s.zonePins zone.val).entry = false →
        ∃ v, exec (.restSensorFall zone) s = .next (finish u v) ∧
          v = { u with zones := v.zones, port := (s.report .lifted (some zone.val)).port } ∧
          (v.zone zone.val).state = .free ∧ ∀ j, j ≠ zone.val → v.zone j = s.zone j) ∧
      ((s.zone zone.val).landing = true ∨ (s.zone zone.val).state ∉ [.occupied, .unknown] ∨
          ((s.zone zone.val).state = .occupied ∧
            ((s.zone zone.val).departing = true ∨ (s.zone zone.val).occ = [] ∨
              (s.isDoor zone.val = true ∧ s.door.substate ≠ .empty))) ∨
          ((s.zone zone.val).state = .unknown ∧ (s.zonePins zone.val).entry = true) →
        s.crossingOut zone.val = false → exec (.restSensorFall zone) s = .next (finish u u))))

/-- An accepted rising edge of a landing input sets its level; on a landing zone it binds the announced slab, makes a FREE
zone UNKNOWN, or is a landing conflict that faults the zone, ends its move and gives the own halt cause; elsewhere it does
no more (R4, R31, R32). That an edge at the level already held does nothing, and one before START only sets the pin, is
log 3. -/
def Obligations.LandingInputRises : Prop :=
  (∀ (s : State) (zone : ZoneIx), (s.zonePins zone.val).landing = true →
    exec (.landingInputRise zone) s = .next s) ∧
  (∀ (s u : State) (zone : ZoneIx), (s.zonePins zone.val).landing = false →
    u = s.modPins zone.val (fun p => { p with landing := true }) →
    (s.started = false ∨ s.zones.length ≤ zone.val → exec (.landingInputRise zone) s = .next u) ∧
    (s.started = true → zone.val < s.zones.length →
      (∀ id r, (s.zone zone.val).landing = true → (s.zone zone.val).state = .expecting →
        (s.zone zone.val).expected = some id → s.record? id = some r →
        ∃ v r', exec (.landingInputRise zone) s = .next (finish u v) ∧
          v = { u with store := { s.store with pool := v.store.pool }, zones := v.zones, port := v.port } ∧
          (v.zone zone.val).state = .occupied ∧ (v.zone zone.val).occ = [id] ∧ (v.zone zone.val).expected = none ∧
          v.record? id = some r' ∧ r'.status = .live ∧
          r'.landing = some (signedStamp s.now, s.params.stationNo) ∧ r'.seq = r.seq ∧ r'.dest = r.dest ∧
          r'.holds.host = r.holds.host ∧
          (s.routingOf r.dest zone.val = .misrouted → r'.holds.misrouted = true) ∧
          (s.routingOf r.dest zone.val = .endOfLine → r'.holds.endOfLine = true) ∧
          (∀ x, x ≠ id → v.record? x = s.record? x) ∧ (∀ j, j ≠ zone.val → v.zone j = s.zone j) ∧
          (s.port.reports.length < 32 →
            ∃ p, v.port.reports[s.port.reports.length]? = some p ∧ p.kind = .landed ∧ p.zone = some zone.val ∧
              p.slab = some id)) ∧
      ((s.zone zone.val).landing = true → (s.zone zone.val).state = .free →
        ∃ v, exec (.landingInputRise zone) s = .next (finish u v) ∧
          v = { u with zones := v.zones, port := (s.report .unknownLanding (some zone.val)).port } ∧
          (v.zone zone.val).state = .unknown ∧ ∀ j, j ≠ zone.val → v.zone j = s.zone j) ∧
      ((s.zone zone.val).landing = true → (s.zone zone.val).state = .reserved ∨ (s.zone zone.val).state = .sending ∨
          ((s.zone zone.val).state = .receiving ∧ (s.zone zone.val).handleMoved = false) →
        ∃ v, exec (.landingInputRise zone) s = .next (finish u v) ∧
          (v.zone zone.val).state = .fault ∧
          (∃ partner, (v.zone zone.val).fault = some ⟨.landingConflict, partner⟩) ∧
          v.halt.causes = { s.halt.causes with landingConflict := true } ∧
          (s.halt.causes.any = false → s.params.stationNo ∈ v.halt.holders) ∧
          (s.halt.causes.any = false → s.params.stationNo ∉ s.halt.holders → s.line.mode = .run →
            v.line.mode = .halted) ∧
          (∀ a, zone.val = a + 1 → (s.zone zone.val).state = .receiving → (s.zone a).state = .sending →
            (v.zone a).state = .fault ∧ (v.zone a).fault = some ⟨.landingConflict, some zone.val⟩ ∧
            (v.zone zone.val).fault = some ⟨.landingConflict, some a⟩) ∧
          (zone.val + 1 < s.zones.length → (s.zone zone.val).state = .sending → s.crossingIn zone.val = false →
            (v.zone (zone.val + 1)).state = .fault ∧
            (v.zone (zone.val + 1)).fault = some ⟨.landingConflict, some zone.val⟩ ∧
            (v.zone zone.val).fault = some ⟨.landingConflict, some (zone.val + 1)⟩) ∧
          (∀ a, zone.val = a + 1 → (s.zone zone.val).state = .reserved → (s.zone a).departing = true →
            (v.zone a).state = .occupied ∧ (v.zone a).departing = false ∧ (v.zone a).occ = (s.zone a).occ ∧
            (v.zone zone.val).fault = some ⟨.landingConflict, none⟩) ∧
          (s.crossingIn zone.val = true → v.inc.state = .idle)) ∧
      ((s.zone zone.val).landing = false ∨ (s.zone zone.val).state ∈ [.occupied, .unknown, .fault] ∨
          ((s.zone zone.val).state = .receiving ∧ (s.zone zone.val).handleMoved = true) →
        exec (.landingInputRise zone) s = .next (finish u u))))

/-- An accepted falling edge of a landing input clears its level; on a landing zone it is the lift-off of the slab at rest,
whose record is deleted, frees an UNKNOWN zone, or faults a slab lifted as it runs in with its own halt cause; elsewhere it
does no more (R33, R36). That an edge at the level already held does nothing, and one before START only sets the pin, is log 3. -/
def Obligations.LandingInputFalls : Prop :=
  (∀ (s : State) (zone : ZoneIx), (s.zonePins zone.val).landing = false →
    exec (.landingInputFall zone) s = .next s) ∧
  (∀ (s u : State) (zone : ZoneIx), (s.zonePins zone.val).landing = true →
    u = s.modPins zone.val (fun p => { p with landing := false }) →
    (s.started = false ∨ s.zones.length ≤ zone.val → exec (.landingInputFall zone) s = .next u) ∧
    (s.started = true → zone.val < s.zones.length →
      (∀ id rest, (s.zone zone.val).landing = true → (s.zone zone.val).state = .occupied →
        (s.zone zone.val).departing = false → (s.zone zone.val).occ = id :: rest →
        ∃ v, exec (.landingInputFall zone) s = .next (finish u v) ∧
          v = { u with store := { s.store with pool := s.store.pool.filter fun r => r.id != id }, zones := v.zones
                       door := { s.door with tracks := v.door.tracks }
                       port := (s.report .lifted (some zone.val) (some id)).port } ∧
          (v.zone zone.val).state = .free ∧ (v.zone zone.val).occ = [] ∧
          ∀ j, j ≠ zone.val → (v.zone j).state = (s.zone j).state) ∧
      ((s.zone zone.val).landing = true → (s.zone zone.val).state = .unknown →
        ∃ v, exec (.landingInputFall zone) s = .next (finish u v) ∧
          v = { u with zones := v.zones, port := (s.report .lifted (some zone.val)).port } ∧
          (v.zone zone.val).state = .free ∧ ∀ j, j ≠ zone.val → v.zone j = s.zone j) ∧
      ((s.zone zone.val).landing = true → (s.zone zone.val).state = .receiving →
        (s.zone zone.val).handleMoved = true → s.runOn zone.val = false →
        ∃ v, exec (.landingInputFall zone) s = .next (finish u v) ∧
          (v.zone zone.val).state = .fault ∧ (v.zone zone.val).fault = some ⟨.liftedInMotion, none⟩ ∧
          v.halt.causes = { s.halt.causes with liftedInMotion := true } ∧
          (s.halt.causes.any = false → s.params.stationNo ∈ v.halt.holders) ∧
          (s.crossingIn zone.val = false → (v.zone zone.val).occ = (s.zone zone.val).occ ∧ v.store = s.store ∧
            ∀ j, j ≠ zone.val → v.zone j = s.zone j)) ∧
      ((s.zone zone.val).landing = false ∨
          (s.zone zone.val).state ∈ [.free, .expecting, .reserved, .sending, .fault] ∨
          ((s.zone zone.val).state = .occupied ∧ (s.zone zone.val).departing = true) ∨
          ((s.zone zone.val).state = .occupied ∧ (s.zone zone.val).occ = []) ∨
          ((s.zone zone.val).state = .receiving ∧
            ((s.zone zone.val).handleMoved = false ∨ s.runOn zone.val = true)) →
        exec (.landingInputFall zone) s = .next (finish u u))))

/-- A pulse of a door group's encoder counts up forward and down in reverse from START onward at a station with a furnace:
in the group's own count and in every track that counts and follows it, and every counting track then follows the far
encoder exactly beyond A; the group's stall timer starts afresh; a placement that reaches its stopping point stops its
groups; and a placed slab that has moved more than POS_TOL with the groups off faults the door zone
(R117, R119, R128, R131). Pulses that each carry one count and a direction are log 3's, and the reference and sign of the
movement log 31's. -/
def Obligations.EncoderPulsesAreCounted : Prop :=
  (∀ (s : State) (g : Group) (dir : Direction), s.params.hasFurnace = false ∨ s.phase = .unstarted →
    exec (.encoderPulse g dir) s = .next s) ∧
  (∀ (s : State) (g : Group) (dir : Direction) (n : Nat), s.params.hasFurnace = true → s.phase = .reconciling n →
    exec (.encoderPulse g dir) s = .next (s.countPulse g dir)) ∧
  (∀ (s : State) (g : Group) (dir : Direction), s.params.hasFurnace = true → s.started = true → 1 ≤ s.params.doorZone →
    ∃ v, exec (.encoderPulse g dir) s = .next (finish s v) ∧
      v.store = s.store ∧ v.cycle = s.cycle ∧ v.lists = s.lists ∧ v.hearth = s.hearth ∧ v.line = s.line ∧
      v.door.nearCount = (if g = .near then s.door.nearCount + pulseOf dir else s.door.nearCount) ∧
      v.door.farCount = (if g = .far then s.door.farCount + pulseOf dir else s.door.farCount) ∧
      v.door.tracks = s.door.tracks.map (Track.pulse s.params g dir) ∧
      v.door.stallNear = (if g = .near ∧ s.door.stallNear ≠ none then some 500 else s.door.stallNear) ∧
      v.door.stallFar = (if g = .far ∧ s.door.stallFar ≠ none then some 500 else s.door.stallFar) ∧
      (∀ t, (s.countPulse g dir).door.placed? = some t → s.door.suspended = false →
        stopReached s.params t s.door.phase = true → s.door.substate = .positioning →
        v.door.phase = .stopping ∧ v.door.still = some 500) ∧
      (∀ t, (s.countPulse g dir).testStop.movedTrack = some t → s.params.doorZone < s.zones.length →
        v.doorEntry.state = .fault ∧ v.doorEntry.fault = some ⟨.slabDisplaced, none⟩ ∧
        v.port = (s.report .slabDisplaced (some s.params.doorZone) (some t.id)
          (some (trackMovement s.params t))).port)) ∧
  (∀ (p : Params) (g : Group) (dir : Direction) (t : Track),
    (t.counting = false → Track.pulse p g dir t = t) ∧
    (t.counting = true →
      (Track.pulse p g dir t).count = (if t.encoder = g then t.count + pulseOf dir else t.count) ∧
      ((Track.pulse p g dir t).encoder = .far ↔
        p.doorAxis < min ((Track.pulse p g dir t).count.toNat * 1000 / p.encPpm) p.doorLength))) ∧
  pulseOf .forward = 1 ∧ pulseOf .reverse = -1


/-- The accepted edges of the cycle's inputs set their levels and, from START on at a station with a furnace, move the
cycle: DOOR_OPEN in DOOR_OPENING and RUN starts the push with its stroke; its fall loses the door in PUSHING and is reported
in RETRACTING; DOOR_SHUT ends DOOR_CLOSING; BAR_HOME ends RETRACTING; an edge of FURN_PERMIT in READY_CHECK or HEARTH_WAIT
makes the readiness tests, whose first failure decides, and a fall aborts an opening and not a push; any other edge only
sets its level (R141, R142, R143, R144, R145, R147, R148). That an edge before START only sets the pin and the operand says
which edge it is, is log 3; the off-centre flag cleared at BAR_HOME log 35; the values of an IDLE cycle log 61. -/
def Obligations.CycleInputEdges : Prop :=
  (∀ s : State, s.phase = .unstarted ∨ s.params.hasFurnace = false →
    exec .doorOpenActive s = .next { s with pins := { s.pins with doorOpen := true } } ∧
    exec .doorOpenFall s = .next { s with pins := { s.pins with doorOpen := false } } ∧
    (∀ b, exec (.doorShutActive b) s = .next { s with pins := { s.pins with doorShut := b } }) ∧
    (∀ b, exec (.pushDoneRise b) s = .next { s with pins := { s.pins with pushDone := b } }) ∧
    (∀ b, exec (.barHomeActive b) s = .next { s with pins := { s.pins with barHome := b } }) ∧
    exec .furnPermitRise s = .next { s with pins := { s.pins with furnPermit := true } } ∧
    exec .furnPermitFall s = .next { s with pins := { s.pins with furnPermit := false } }) ∧
  (∀ s u : State, s.phase ≠ .unstarted → s.params.hasFurnace = true → s.pins.doorOpen = false →
    u = { s with pins := { s.pins with doorOpen := true } } →
    (s.cycle.state = .doorOpening → s.line.mode = .run → ∀ computed stroke,
      computed = s.params.strokeBase + ((s.chargeRecords.map fun r => r.width).foldl max 0 + 1) / 2 →
      stroke = min computed s.params.strokeLimit →
      exec .doorOpenActive s = .next (finish u
        { u with
          cycle := { s.cycle with state := .pushing, stroke := some stroke, setpoint := some stroke
                                  timer := some s.params.pushTimeout }
          port := ((if s.params.strokeLimit < computed then
              s.report .strokeClamped (some s.params.doorZone) s.cycle.charge.head?
                (some (computed - s.params.strokeLimit : Nat))
            else s).report .chargeStarted (some s.params.doorZone) s.cycle.charge.head? (some stroke)).port })) ∧
    (s.cycle.state ≠ .doorOpening ∨ s.line.mode ≠ .run → exec .doorOpenActive s = .next (finish u u))) ∧
  (∀ s u : State, s.phase ≠ .unstarted → s.params.hasFurnace = true → s.pins.doorOpen = true →
    u = { s with pins := { s.pins with doorOpen := false } } →
    (s.cycle.state = .pushing → 1 ≤ s.params.doorZone → s.params.doorZone < s.zones.length →
      ∃ v, exec .doorOpenFall s = .next (finish u v) ∧
        v = { u with zones := v.zones, door := v.door
                     cycle := { s.cycle with state := .limbo, timer := none, limbo := some .doorLost
                                             latePush := false }
                     port := (s.report .pushFault (some s.params.doorZone) s.cycle.charge.head? (some 1)).port } ∧
        v.doorEntry.state = .fault ∧ v.doorEntry.fault = some ⟨.pushFault, none⟩ ∧ v.doorEntry.occ = s.doorEntry.occ ∧
        v.pushCmd = false) ∧
    (s.cycle.state = .retracting →
      exec .doorOpenFall s = .next (finish u
        { u with port := (s.report .doorLostInRetract (some s.params.doorZone)).port })) ∧
    (s.cycle.state ≠ .pushing → s.cycle.state ≠ .retracting → exec .doorOpenFall s = .next (finish u u))) ∧
  (∀ s u : State, s.phase ≠ .unstarted → s.params.hasFurnace = true → s.pins.doorShut = false →
    u = { s with pins := { s.pins with doorShut := true } } →
    (s.cycle.state = .doorClosing →
      exec (.doorShutActive true) s = .next (finish u { u with cycle := { setpoint := s.cycle.setpoint } })) ∧
    (s.cycle.state ≠ .doorClosing → exec (.doorShutActive true) s = .next (finish u u)) ∧
    exec (.doorShutActive false) s = .next s ∧ exec (.doorShutActive true) u = .next u ∧
    exec (.doorShutActive false) u = .next (finish s s)) ∧
  (∀ s u : State, s.phase ≠ .unstarted → s.params.hasFurnace = true → s.pins.barHome = false →
    u = { s with pins := { s.pins with barHome := true } } →
    (s.cycle.state = .retracting →
      ∃ v, exec (.barHomeActive true) s = .next (finish u v) ∧
        v = { u with zones := v.zones
                     door := { s.door with substate := .empty, offCentre := false, pairTimer := none }
                     cycle := { s.cycle with state := .doorClosing, timer := some s.params.doorTimeout } } ∧
        (s.doorEntry.state = .occupied → s.doorEntry.occ = [] → v.doorEntry.state = .free) ∧
        (s.doorEntry.state = .fault → v.zones = s.zones) ∧ ∀ j, j ≠ s.params.doorZone → v.zone j = s.zone j) ∧
    (s.cycle.state ≠ .retracting → exec (.barHomeActive true) s = .next (finish u u)) ∧
    exec (.barHomeActive false) s = .next s ∧ exec (.barHomeActive true) u = .next u ∧
    exec (.barHomeActive false) u = .next (finish s s)) ∧
  (∀ (s u : State) (up : Bool), s.phase ≠ .unstarted → s.params.hasFurnace = true → s.pins.furnPermit = !up →
    u = { s with pins := { s.pins with furnPermit := up } } →
    s.cycle.state = .readyCheck ∨ s.cycle.state = .hearthWait →
    ∃ v, exec (if up then .furnPermitRise else .furnPermitFall) s = .next (finish u v) ∧
      v = { u with cycle := { s.cycle with state := v.cycle.state, timer := v.cycle.timer, waits := v.cycle.waits }
                   port := v.port } ∧
      (s.hearth.integrity ≠ .intact → v.cycle.state = .readyCheck ∧ v.cycle.timer = s.cycle.timer ∧
        v.cycle.waits = { s.cycle.waits with notIntact := true } ∧
        v.port = (if s.cycle.waits.notIntact then s else s.report .hearthNotIntact (some s.params.doorZone)
          s.cycle.charge.head? (some s.hearth.integrity.reportCode)).port) ∧
      (s.hearth.integrity = .intact → (∃ r ∈ s.chargeRecords, r.holds.any = true) →
        v.cycle.state = .readyCheck ∧ v.cycle.timer = s.cycle.timer ∧ v.cycle.waits = s.cycle.waits ∧
        v.port = s.port) ∧
      (s.hearth.integrity = .intact → (∀ r ∈ s.chargeRecords, r.holds.any = false) →
        (48 ≤ s.hearth.count ∨ s.params.hearthLength < s.hearth.fill + s.cycle.pitch ∨
            s.params.loadCapacityKg < s.hearth.load + s.cycle.weightSum →
          v.cycle.state = .hearthWait ∧ v.cycle.timer = s.cycle.timer ∧
          v.cycle.waits = { s.cycle.waits with hearthWait := true } ∧
          v.port = (if s.cycle.waits.hearthWait then s else s.report .hearthWait (some s.params.doorZone)
            s.cycle.charge.head? (some (s.hearth.fill + s.cycle.pitch - s.params.hearthLength : Nat))).port) ∧
        (s.hearth.count < 48 → s.hearth.fill + s.cycle.pitch ≤ s.params.hearthLength →
          s.hearth.load + s.cycle.weightSum ≤ s.params.loadCapacityKg →
          (up = false → v.cycle.state = .readyCheck ∧ v.cycle.timer = s.cycle.timer ∧
            v.cycle.waits = { s.cycle.waits with permitWait := true } ∧
            v.port = (if s.cycle.waits.permitWait then s else
              s.report .permitWait (some s.params.doorZone) s.cycle.charge.head?).port) ∧
          (up = true → v.cycle.waits = s.cycle.waits ∧ v.port = s.port ∧
            (s.line.mode = .run → v.cycle.state = .doorOpening ∧ v.cycle.timer = some s.params.doorTimeout) ∧
            (s.line.mode ≠ .run → v.cycle.state = .readyCheck ∧ v.cycle.timer = s.cycle.timer))))) ∧
  (∀ s u : State, s.phase ≠ .unstarted → s.params.hasFurnace = true → s.pins.furnPermit = false →
    u = { s with pins := { s.pins with furnPermit := true } } →
    (s.cycle.state ≠ .readyCheck → s.cycle.state ≠ .hearthWait → exec .furnPermitRise s = .next (finish u u)) ∧
    exec .furnPermitRise u = .next u ∧ exec .furnPermitFall s = .next s) ∧
  (∀ s u : State, s.phase ≠ .unstarted → s.params.hasFurnace = true → s.pins.furnPermit = true →
    u = { s with pins := { s.pins with furnPermit := false } } →
    (s.cycle.state = .doorOpening →
      exec .furnPermitFall s = .next (finish u
        { u with cycle := { setpoint := s.cycle.setpoint }, door := { s.door with substate := .positioned }
                 port := (s.report .permitLost (some s.params.doorZone) s.cycle.charge.head? (some 1)).port })) ∧
    (s.cycle.state = .pushing →
      exec .furnPermitFall s = .next (finish u
        { u with port := (s.report .permitLost (some s.params.doorZone) s.cycle.charge.head? (some 2)).port })) ∧
    (s.cycle.state ∉ [.doorOpening, .pushing, .readyCheck, .hearthWait] →
      exec .furnPermitFall s = .next (finish u u)))

/-! ## The yard line -/

/-- The Line Interface's timers: the listen half gives way to the count half with its tally at 0; at the end of the count
half a tally within ERR_THRESHOLD passes the window and starts declaration, and a larger one is LINE_NOISY and opens a new
window; the declaration period and the end of the hold-off mark and free the DECLARE slot; the creep period ends; and each
changes nothing else. Each acts with its timer at 0 and does nothing at all otherwise (log 2). FRAME_ERROR raises the line
error count, saturating, and in the count half the tally (R22, R43, R44, R52, R55, R56); it is not acted on before START is
over (log 50) nor during an own attempt (log 21). -/
def Obligations.LineTimersAndErrorsQualifyTheLine : Prop :=
  (∀ s : State, s.started = true →
    (s.creep = some 0 → exec .resumeCreepEnd s = .next (finish s { s with creep := none })) ∧
    (s.creep ≠ some 0 → exec .resumeCreepEnd s = .next (finish s s)) ∧
    (s.line.holdoff = some 0 →
      exec .declareChangeHoldoff s = .next (finish s { s with line := { s.line with holdoff := none } })) ∧
    (s.line.holdoff ≠ some 0 → exec .declareChangeHoldoff s = .next (finish s s)) ∧
    (s.line.mode = .listening → s.line.stage = .listen → s.line.windowTimer = some 0 →
      exec .listenHalfEnd s =
        .next (finish s { s with line := { s.line with stage := .count, tally := 0, windowTimer := some 1000 } })) ∧
    (s.line.mode ≠ .listening ∨ s.line.stage ≠ .listen ∨ s.line.windowTimer ≠ some 0 →
      exec .listenHalfEnd s = .next (finish s s)) ∧
    (s.line.mode = .listening → s.line.stage = .count → s.line.windowTimer = some 0 →
        s.line.tally ≤ s.params.errThreshold →
      ∃ v, exec .countHalfEnd s = .next (finish s v) ∧
        v = { s with line := { s.line with stage := .passed, windowTimer := none, declaring := true, period := some 250
                                           holdoff := some 20, slots := v.line.slots } } ∧
        v.line.slots.declare ≠ none ∧ v.line.slots = { s.line.slots with declare := v.line.slots.declare }) ∧
    (s.line.mode = .listening → s.line.stage = .count → s.line.windowTimer = some 0 →
        s.params.errThreshold < s.line.tally →
      ∃ v, exec .countHalfEnd s = .next (finish s v) ∧
        v.port = (s.report .lineNoisy (value := some s.line.tally)).port ∧
        (s.params.others ≠ [] →
          v = { s with line := { s.line with stage := .listen, windowTimer := some 1000, tally := 0 }, port := v.port }) ∧
        (s.params.others = [] →
          v = { s with line := { s.line with stage := .passed, windowTimer := none, tally := 0, declaring := true
                                             period := some 250, holdoff := some 20, slots := v.line.slots }
                       port := v.port })) ∧
    (s.line.mode ≠ .listening ∨ s.line.stage ≠ .count ∨ s.line.windowTimer ≠ some 0 →
      exec .countHalfEnd s = .next (finish s s)) ∧
    (s.line.declaring = true → s.line.mayTransmit = true → s.line.period = some 0 →
      ∃ v, exec .declarationPeriod s = .next (finish s v) ∧
        v = { s with line := { s.line with period := some 250, holdoff := some 20, slots := v.line.slots } } ∧
        v.line.slots.declare ≠ none ∧ v.line.slots = { s.line.slots with declare := v.line.slots.declare } ∧
        (s.line.slots.declare ≠ none → v.line.slots = s.line.slots)) ∧
    (s.line.declaring = false ∨ s.line.mayTransmit = false ∨ s.line.period ≠ some 0 →
      exec .declarationPeriod s = .next (finish s s))) ∧
  (∀ s : State,
    (s.started = false ∨ s.line.attempt ≠ none → exec .frameError s = .next s) ∧
    (s.started = true → s.line.attempt = none → ∃ t, exec .frameError s = .next t ∧
      t = { s with line := { s.line with lineErrors := t.line.lineErrors, tally := t.line.tally } } ∧
      (s.line.lineErrors < 65535 → t.line.lineErrors = s.line.lineErrors + 1) ∧
      (s.line.lineErrors = 65535 → t.line.lineErrors = 65535) ∧
      (s.line.mode = .listening → s.line.stage = .count → t.line.tally = s.line.tally + 1) ∧
      (s.line.mode ≠ .listening ∨ s.line.stage ≠ .count → t.line.tally = s.line.tally)))

/-- A silence timer that expires in RUN or HALTED queues LINE_SILENT and isolates the station: every slot empty, no
attempt, no declaration, no creep; a peer entry that is HEARD or QUALIFIED goes STALE at its age with its flag, its count
at 0 and PEER_STALE, the line pace following the loss of a QUALIFIED one; in other states neither acts
(R54, R59, R63, R172). Each acts with its time run out, the timer at 0 or the age at 1,000 ms, and a frame taken first leaves
it nothing (log 2); isolation keeps the qualification stage (log 22), the back-off gap and the consecutive count (log 51). -/
def Obligations.SilenceIsolatesAndAgeMakesStale : Prop :=
  (∀ s : State, s.started = true →
    (s.line.mode = .run ∨ s.line.mode = .halted → s.line.silence = some 0 →
      exec .lineSilent s =
        .next (finish s
          { s with line := { s.line with mode := .isolated, isolation := some .silence, slots := {}, attempt := none
                                         declaring := false, period := none, holdoff := none, windowTimer := none
                                         silence := none }
                   creep := none, port := (s.report .lineSilent).port })) ∧
    ((s.line.mode ≠ .run ∧ s.line.mode ≠ .halted) ∨ s.line.silence ≠ some 0 →
      exec .lineSilent s = .next (finish s s))) ∧
  (∀ (s : State) (station : Byte) (p : Peer), s.started = true → s.line.peer? station.toNat = some p →
    (p.state = .heard ∨ p.state = .qualified → 1000 ≤ p.age.getD 0 →
      ∃ v p', exec (.peerStale station) s = .next (finish s v) ∧
        v = { s with line := { s.line with peers := v.line.peers }, pace := v.pace, port := v.port } ∧
        v.line.peer? station.toNat = some p' ∧ p'.state = .stale ∧ p'.changed = true ∧ p'.consecutive = 0 ∧
        p'.age = p.age ∧ p'.last = p.last ∧ p'.lastSeq = p.lastSeq ∧ p'.gaps = p.gaps ∧
        (∀ n, n ≠ station.toNat → v.line.peer? n = s.line.peer? n) ∧
        (p.state = .heard → v.pace = s.pace ∧
          v.port = (s.report .peerStale (value := some station.toNat)).port) ∧
        (p.state = .qualified → v.pace.linePace = max s.pace.dreq (peersPace v.line.peers))) ∧
    ((p.state ≠ .heard ∧ p.state ≠ .qualified) ∨ p.age.getD 0 < 1000 → exec (.peerStale station) s = .next (finish s s))) ∧
  (∀ (s : State) (station : Byte), s.started = true → s.line.peer? station.toNat = none →
    exec (.peerStale station) s = .next (finish s s))

/-- A good DECLARE of another member updates its entry: the declaration kept, the age at 0, the sequence taken with a gap
counted; ABSENT and STALE become HEARD with count 1, HEARD counts on without a gap to QUALIFIED at 3 and restarts at 1
with one, and QUALIFIED stands; its holding flag puts the member into or out of the halt set; outside ISOLATED one of the
downstream neighbour lifts the offer bar and completes the crossing of the slab it names; one heard in ISOLATED for silence
returns the station to LISTENING (R48, R59, R61, R62, R69, R77, R90). The first frame of an ABSENT entry shows no gap
(log 20); none is acted on before START is over (log 50) nor during an own attempt (log 21). -/
def Obligations.DeclareUpdatesItsEntry : Prop :=
  (∀ (s : State) (h : Broadcast) (d : Declaration) (p : Peer) (heard : Prop), s.started = true →
    s.line.attempt = none → (heard ↔ s.line.mode ≠ .isolated ∨ s.line.isolation = some .silence) →
    s.params.isMember h.source.toNat = true → h.source.toNat ≠ s.params.stationNo →
    s.line.peer? h.source.toNat = some p →
    ∃ v p', exec (.declareReceived h d) s = .next (finish s v) ∧ v.line.peer? h.source.toNat = some p' ∧
      p'.last = some d ∧ p'.age = some 0 ∧ p'.lastSeq = some h.seq ∧
      (∀ n, n ≠ h.source.toNat → v.line.peer? n = s.line.peer? n) ∧
      (p.state = .absent ∨ p.state = .stale → p'.state = .heard ∧ p'.consecutive = 1 ∧ p'.changed = true) ∧
      (∀ l, p.state = .heard → p.lastSeq = some l → h.seq ≠ l + 1 →
        p'.state = .heard ∧ p'.consecutive = 1 ∧ p'.gaps = min (p.gaps + 1) 65535) ∧
      (∀ l, p.state = .heard → p.lastSeq = some l → h.seq = l + 1 → p'.gaps = p.gaps ∧
        (p.consecutive < 2 → p'.state = .heard ∧ p'.consecutive = p.consecutive + 1) ∧
        (2 ≤ p.consecutive → p'.state = .qualified ∧ p'.changed = true)) ∧
      (p.state = .qualified → p'.state = .qualified ∧ p'.changed = p.changed) ∧
      (p'.state = .qualified → v.pace.linePace = max s.pace.dreq (peersPace v.line.peers)) ∧
      (d.holding = true → ∀ m, m ∈ v.halt.holders ↔ m = h.source.toNat ∨ m ∈ s.halt.holders) ∧
      (d.holding = false → ∀ m, m ∈ v.halt.holders ↔ m ≠ h.source.toNat ∧ m ∈ s.halt.holders) ∧
      v.halt.causes = s.halt.causes ∧
      (s.line.mode = .isolated → heard → v.line.mode = .listening ∧ v.line.isolation = none) ∧
      (s.line.mode = .isolated → ¬heard → v.line.mode = .isolated) ∧
      v.hearth = s.hearth ∧ v.lists = s.lists ∧ v.cycle = s.cycle ∧ v.inc = s.inc ∧
      (¬heard ∨ s.params.downstream ≠ some h.source.toNat →
        v.out = s.out ∧ v.zones = s.zones ∧ v.store = s.store ∧ v.door = s.door) ∧
      (heard → s.params.downstream = some h.source.toNat →
        (s.out.state ≠ .runningOut ∨ d.entryId ≠ BitVec.ofNat 32 s.out.slab →
          v.out = { s.out with offerBar := false } ∧ v.zones = s.zones ∧ v.store = s.store ∧ v.door = s.door) ∧
        (s.out.state = .runningOut → d.entryId = BitVec.ofNat 32 s.out.slab →
          v.out = { s.out with state := .idle, answer := none, exitClear := false, offerBar := false } ∧
          v.store = { s.store with pool := s.store.pool.filter fun r => r.id != s.out.slab } ∧
          (s.zones ≠ [] → (s.zone s.exitZone).state ≠ .fault →
            (v.zone s.exitZone).state = .free ∧ (v.zone s.exitZone).occ = []) ∧
          ((s.zone s.exitZone).state = .fault → (v.zone s.exitZone).state = .fault) ∧
          (∀ j, j ≠ s.exitZone → (v.zone j).state = (s.zone j).state) ∧
          ∃ u : State, u.clk = s.clk ∧ u.store = v.store ∧
            v.port = ((u.report .passedOut (some s.exitZone) (some s.out.slab)
              ((s.record? s.out.slab).map fun r => (r.dest : Int))).watchHit s.out.slab (some s.exitZone) 3).port ∧
            (p.state = .absent ∨ p.state = .stale → (d.holding = true ↔ h.source.toNat ∈ s.halt.holders) →
              s.line.mode ≠ .isolated → u.port = s.port)))) ∧
  (∀ (s : State) (h : Broadcast) (d : Declaration), s.started = false →
    exec (.declareReceived h d) s = .next s) ∧
  (∀ (s : State) (h : Broadcast) (d : Declaration), s.started = true → s.line.attempt ≠ none →
    exec (.declareReceived h d) s = .next (finish s s))

/-- A good HALT of another member, whatever its reason, puts it into the halt set with HALT_ON, taking RUN to HALTED; its
RESUME takes it out with HALT_OFF, taking HALTED with an empty set to RUN; a number already in or already out changes
neither; LISTENING and ISOLATED take both frames too and keep their mode; a frame of no member only counts as foreign; a
HALT or RESUME of the own number in RUN or HALTED isolates the station as a duplicate with its kind code, and in LISTENING
or ISOLATED goes no further; and any of them heard in ISOLATED for silence is taken in the LISTENING it returns the station
to (R48, R58, R59, R62, R90, R93, R98). -/
def Obligations.HaltFramesFillAndEmptyTheSet : Prop :=
  (∀ (s : State) (h : Broadcast) (reason : HaltReason), s.started = true → s.line.attempt = none →
    s.line.mode = .run ∨ s.line.mode = .halted → s.params.isMember h.source.toNat = true →
    h.source.toNat ≠ s.params.stationNo →
    (∃ v, exec (.haltReceived h reason) s = .next (finish s v) ∧
      v = { s with line := { s.line with mode := v.line.mode, silence := some 1000, peers := v.line.peers }
                   halt := v.halt, creep := v.creep, port := v.port } ∧ s.frameTaken v h.source.toNat h.seq ∧
      v.halt.causes = s.halt.causes ∧ (∀ m, m ∈ v.halt.holders ↔ m = h.source.toNat ∨ m ∈ s.halt.holders) ∧
      (h.source.toNat ∉ s.halt.holders → v.line.mode = .halted ∧
        v.port = (s.report .haltOn (value := some (256 * h.source.toNat + holderSum v.halt.holders : Nat))).port) ∧
      (h.source.toNat ∈ s.halt.holders → v.line.mode = s.line.mode ∧ v.port = s.port ∧ v.creep = s.creep)) ∧
    (∃ v, exec (.resumeReceived h) s = .next (finish s v) ∧
      v = { s with line := { s.line with mode := v.line.mode, silence := some 1000, peers := v.line.peers }
                   halt := v.halt, creep := v.creep, port := v.port } ∧ s.frameTaken v h.source.toNat h.seq ∧
      v.halt.causes = s.halt.causes ∧ (∀ m, m ∈ v.halt.holders ↔ m ≠ h.source.toNat ∧ m ∈ s.halt.holders) ∧
      (h.source.toNat ∈ s.halt.holders →
        v.port = (s.report .haltOff (value := some (256 * h.source.toNat + holderSum v.halt.holders : Nat))).port ∧
        (v.halt.holders = [] → v.line.mode = .run) ∧ (v.halt.holders ≠ [] → v.line.mode = .halted)) ∧
      (h.source.toNat ∉ s.halt.holders → v.line.mode = s.line.mode ∧ v.port = s.port ∧ v.creep = s.creep))) ∧
  (∀ (s : State) (h : Broadcast) (reason : HaltReason), s.started = true → s.line.attempt = none →
    s.line.mode = .run ∨ s.line.mode = .halted → s.params.others ≠ [] →
    (s.params.isMember h.source.toNat = false → h.source.toNat ≠ s.params.stationNo →
      exec (.haltReceived h reason) s =
        .next (finish s { s with line := { s.line with silence := some 1000
                                                       foreign := min (s.line.foreign + 1) 65535 } }) ∧
      exec (.resumeReceived h) s = exec (.haltReceived h reason) s) ∧
    (h.source.toNat = s.params.stationNo →
      (∃ v, exec (.haltReceived h reason) s = .next (finish s v) ∧ v.line.mode = .isolated ∧
        v.line.isolation = some .duplicate ∧ v.line.slots = {} ∧ v.creep = none ∧
        v.port = (s.report .duplicateStation (value := some 7)).port ∧ v.halt = s.halt) ∧
      (∃ v, exec (.resumeReceived h) s = .next (finish s v) ∧ v.line.mode = .isolated ∧
        v.line.isolation = some .duplicate ∧ v.line.slots = {} ∧ v.creep = none ∧
        v.port = (s.report .duplicateStation (value := some 8)).port ∧ v.halt = s.halt))) ∧
  -- LISTENING, and ISOLATED for another cause than silence
  (∀ (s : State) (h : Broadcast) (reason : HaltReason), s.started = true → s.line.attempt = none →
    s.line.mode = .listening ∨ (s.line.mode = .isolated ∧ s.line.isolation ≠ some .silence) →
    (s.params.isMember h.source.toNat = true → h.source.toNat ≠ s.params.stationNo →
      (∃ v, exec (.haltReceived h reason) s = .next (finish s v) ∧
        v = { s with line := { s.line with peers := v.line.peers }
                     halt := { s.halt with holders := v.halt.holders }, port := v.port } ∧
        s.frameTaken v h.source.toNat h.seq ∧ (∀ m, m ∈ v.halt.holders ↔ m = h.source.toNat ∨ m ∈ s.halt.holders) ∧
        (h.source.toNat ∉ s.halt.holders →
          v.port = (s.report .haltOn (value := some (256 * h.source.toNat + holderSum v.halt.holders : Nat))).port) ∧
        (h.source.toNat ∈ s.halt.holders → v.port = s.port)) ∧
      (∃ v, exec (.resumeReceived h) s = .next (finish s v) ∧
        v = { s with line := { s.line with peers := v.line.peers }
                     halt := { s.halt with holders := v.halt.holders }, port := v.port } ∧
        s.frameTaken v h.source.toNat h.seq ∧ (∀ m, m ∈ v.halt.holders ↔ m ≠ h.source.toNat ∧ m ∈ s.halt.holders) ∧
        (h.source.toNat ∈ s.halt.holders →
          v.port = (s.report .haltOff (value := some (256 * h.source.toNat + holderSum v.halt.holders : Nat))).port) ∧
        (h.source.toNat ∉ s.halt.holders → v.port = s.port))) ∧
    (s.params.isMember h.source.toNat = false → h.source.toNat ≠ s.params.stationNo →
      exec (.haltReceived h reason) s =
        .next (finish s { s with line := { s.line with foreign := min (s.line.foreign + 1) 65535 } }) ∧
      exec (.resumeReceived h) s = exec (.haltReceived h reason) s) ∧
    (h.source.toNat = s.params.stationNo →
      exec (.haltReceived h reason) s = .next (finish s s) ∧ exec (.resumeReceived h) s = .next (finish s s))) ∧
  -- ISOLATED for silence
  (∀ (s w : State) (h : Broadcast) (reason : HaltReason), s.started = true → s.line.attempt = none →
    s.line.mode = .isolated → s.line.isolation = some .silence → s.params.others ≠ [] →
    w = { s with line := { s.line with mode := .listening, isolation := none, stage := .listen
                                       windowTimer := some 1000, tally := 0 }
                 port := (s.report .lineHeard (value := some h.source.toNat)).port } →
    (∃ v, exec (.haltReceived h reason) s = .next (finish s v) ∧
      exec (.haltReceived h reason) w = .next (finish w v)) ∧
    (∃ v, exec (.resumeReceived h) s = .next (finish s v) ∧ exec (.resumeReceived h) w = .next (finish w v)))

/-- A good OFFER of the upstream neighbour for this station is answered in its step in RUN, HALTED and LISTENING: declined
with the first reason of R70 that holds and nothing reserved, the DECLINE placed where the station may transmit, or accepted
with the entry zone reserved or receiving, the INCOMING record of its form in the pool, the incoming context filled, and an
ACCEPT with the slab's class; the sender's entry takes the frame's sequence. In ISOLATED it is not delivered and gets no
answer, but for the one that ends ISOLATED for silence, which is taken in LISTENING (R7, R48, R59, R62, R70, R71, R75). -/
def Obligations.OfferIsDeclinedOrAccepted : Prop :=
  (∀ (s : State) (h : Addressed) (o : Offer) (n : Nat), s.started = true → s.line.attempt = none →
    s.line.mode = .run ∨ s.line.mode = .halted ∨ s.line.mode = .listening → h.dest.toNat = s.params.stationNo →
    s.params.upstream = some n → h.source.toNat = n →
    ((s.line.qualified n = false → s.declineReason o.form.id.toNat = some .notQualified) ∧
     (s.line.qualified n = true → s.line.mode = .halted → s.declineReason o.form.id.toNat = some .halted) ∧
     (s.line.qualified n = true → s.line.mode = .listening → s.declineReason o.form.id.toNat = some .notRun) ∧
     (s.line.qualified n = true → s.line.mode = .run →
      (s.zone 0).state = .fault ∨ (s.zone 0).zoneClass = .held →
      s.declineReason o.form.id.toNat = some .zoneFault) ∧
     (s.line.qualified n = true → s.line.mode = .run → (s.zone 0).state ≠ .fault → (s.zone 0).zoneClass ≠ .held →
      (s.inc.state ≠ .idle ∨ (s.zone 0).state ≠ .free → s.declineReason o.form.id.toNat = some .busy) ∧
      (s.inc.state = .idle → (s.zone 0).state = .free →
        ((∃ r ∈ s.store.pool, r.id = o.form.id.toNat) ∨ o.form.id.toNat ∈ s.hearth.ids →
          s.declineReason o.form.id.toNat = some .duplicate) ∧
        ((∀ r ∈ s.store.pool, r.id ≠ o.form.id.toNat) → o.form.id.toNat ∉ s.hearth.ids →
          (12 ≤ s.store.pool.length → s.declineReason o.form.id.toNat = some .full) ∧
          (s.store.pool.length < 12 → s.declineReason o.form.id.toNat = none))))) ∧
    (∀ reason, s.declineReason o.form.id.toNat = some reason →
      ∃ v, exec (.offerReceived h o) s = .next (finish s v) ∧
        v = { s with line := { s.line with slots := v.line.slots, peers := v.line.peers
                                           silence := s.silenceHeard } } ∧
        s.frameTaken v n h.seq ∧ v.line.slots = { s.line.slots with decline := v.line.slots.decline } ∧
        (s.line.mayTransmit = true →
          v.line.slots.decline.map (fun f => f.content) = some (.decline o.tag o.form.id reason)) ∧
        (s.line.mayTransmit = false → v.line.slots = s.line.slots)) ∧
    (s.declineReason o.form.id.toNat = none → 0 < s.zones.length →
      ∃ v, exec (.offerReceived h o) s = .next (finish s v) ∧
        v = { s with line := { s.line with slots := v.line.slots, silence := some 1000, peers := v.line.peers }
                     store := { s.store with pool := s.store.pool ++ [s.incomingRecord o.form] }
                     zones := v.zones
                     inc := ⟨if (s.zonePins 0).entry then .receiving else .reserved, o.tag, o.form.id.toNat,
                       o.upstreamClass⟩ } ∧
        (v.zone 0).state = (if (s.zonePins 0).entry then .receiving else .reserved) ∧ (v.zone 0).occ = (s.zone 0).occ ∧
        (v.zone 0).timer = some s.params.motionTimeout ∧ (∀ j, j ≠ 0 → v.zone j = s.zone j) ∧
        s.frameTaken v n h.seq ∧ v.line.slots = { s.line.slots with accept := v.line.slots.accept } ∧
        v.line.slots.accept.map (fun f => f.content) =
          some (.accept o.tag o.form.id (v.effClass o.form.id.toNat 0)))) ∧
  (∀ (s : State) (h : Addressed) (o : Offer), s.started = true → s.line.attempt = none →
    s.line.mode = .run ∨ s.line.mode = .halted ∨ s.line.mode = .listening →
    s.params.isMember h.source.toNat = true → h.source.toNat ≠ s.params.stationNo →
    h.dest.toNat ≠ s.params.stationNo ∨ s.params.upstream ≠ some h.source.toNat →
    ∃ v, exec (.offerReceived h o) s = .next (finish s v) ∧
      v = { s with line := { s.line with peers := v.line.peers
                                         silence := s.silenceHeard } } ∧
      s.frameTaken v h.source.toNat h.seq) ∧
  (∀ (s : State) (h : Addressed) (o : Offer), s.started = true → s.line.attempt = none →
    s.line.mode = .isolated → s.params.isMember h.source.toNat = true → h.source.toNat ≠ s.params.stationNo →
    (s.line.isolation ≠ some .silence → ∃ v, exec (.offerReceived h o) s = .next (finish s v) ∧
      v = { s with line := { s.line with peers := v.line.peers } } ∧ s.frameTaken v h.source.toNat h.seq) ∧
    (∀ w, s.line.isolation = some .silence →
      w = { s with line := { s.line with mode := .listening, isolation := none, stage := .listen
                                         windowTimer := some 1000, tally := 0 }
                   port := (s.report .lineHeard (value := some h.source.toNat)).port } →
      ∃ v, exec (.offerReceived h o) s = .next (finish s v) ∧ exec (.offerReceived h o) w = .next (finish w v))) ∧
  (∀ (s : State) (f : TransferForm),
    (s.incomingRecord f).id = f.id.toNat ∧ (s.incomingRecord f).seq = f.seq.toNat ∧
    (s.incomingRecord f).dest = f.dest.toNat ∧ (s.incomingRecord f).nominal = f.nominal.toNat ∧
    (s.incomingRecord f).weight = f.weight.toNat ∧ (s.incomingRecord f).cls = f.cls ∧
    (s.incomingRecord f).classStamp = signedStamp (s.now - (f.classAge.toNat : Int)) ∧
    (s.incomingRecord f).holds = {} ∧ (s.incomingRecord f).status = .incoming ∧
    (s.incomingRecord f).permit = f.permit)

/-- The answers of a handover, from the right neighbour with the context's tag and slab ID: ACCEPT clears an offer with the
downstream class; DECLINE ends it with the offer bar, reported unless it repeats the last one for the slab; ARRIVED deletes
the record, frees the exit zone and ends the context with PASSED_OUT; WITHDRAW drops a reservation with its record; another
tag, slab, state, destination or sender changes nothing but the sender's peer entry, which takes the sequence. LISTENING
takes them as RUN and HALTED do; ISOLATED delivers none, but for the one that ends ISOLATED for silence, which is taken in
LISTENING (R48, R59, R62, R69, R77, R79). -/
def Obligations.HandoverAnswersMoveTheContexts : Prop :=
  (∀ (s : State) (h : Addressed) (tag : Byte) (id : Word), s.started = true → s.line.attempt = none →
    s.line.mode = .run ∨ s.line.mode = .halted ∨ s.line.mode = .listening → h.dest.toNat = s.params.stationNo →
    s.params.downstream = some h.source.toNat →
    (∀ cls, s.out.state = .offered → s.out.tag = tag → BitVec.ofNat 32 s.out.slab = id →
      ∃ v, exec (.acceptReceived h tag id cls) s = .next (finish s v) ∧
        v = { s with line := { s.line with silence := s.silenceHeard, peers := v.line.peers }
                     out := { s.out with state := .cleared, downClass := cls, answer := none } } ∧
        s.frameTaken v h.source.toNat h.seq) ∧
    (∀ reason, s.out.state = .offered → s.out.tag = tag → BitVec.ofNat 32 s.out.slab = id →
      ∃ v, exec (.declineReceived h tag id reason) s = .next (finish s v) ∧
        v = { s with line := { s.line with silence := s.silenceHeard, peers := v.line.peers }, port := v.port
                     out := { s.out with state := .idle, answer := none, exitClear := false, offerBar := true
                                         lastDecline := some (s.out.slab, reason) } } ∧
        s.frameTaken v h.source.toNat h.seq ∧
        (s.out.lastDecline = some (s.out.slab, reason) → v.port = s.port) ∧
        (s.out.lastDecline ≠ some (s.out.slab, reason) →
          v.port = (s.report .offerDeclined (some s.exitZone) (some s.out.slab) (some (reason.code : Nat))).port)) ∧
    (s.out.state = .runningOut → s.out.tag = tag → BitVec.ofNat 32 s.out.slab = id → s.zones ≠ [] →
      ∃ v, exec (.arrivedReceived h tag id) s = .next (finish s v) ∧
        v.store.pool = s.store.pool.filter (fun r => r.id != s.out.slab) ∧
        ((s.zone s.exitZone).state ≠ .fault → (v.zone s.exitZone).state = .free ∧ (v.zone s.exitZone).occ = []) ∧
        ((s.zone s.exitZone).state = .fault → (v.zone s.exitZone).state = .fault) ∧
        (∀ j, j ≠ s.exitZone → (v.zone j).state = (s.zone j).state) ∧
        v.out = { s.out with state := .idle, answer := none, exitClear := false } ∧
        v.port = ((s.report .passedOut (some s.exitZone) (some s.out.slab)
          ((s.record? s.out.slab).map fun r => (r.dest : Int))).watchHit s.out.slab (some s.exitZone) 3).port ∧
        s.frameTaken v h.source.toNat h.seq ∧
        v.hearth = s.hearth ∧ v.lists = s.lists ∧ v.halt = s.halt ∧ v.inc = s.inc)) ∧
  (∀ (s : State) (h : Addressed) (tag : Byte) (id : Word), s.started = true → s.line.attempt = none →
    s.line.mode = .run ∨ s.line.mode = .halted ∨ s.line.mode = .listening → s.params.isMember h.source.toNat = true →
    h.source.toNat ≠ s.params.stationNo →
    (s.out.state ≠ .offered ∨ s.out.tag ≠ tag ∨ BitVec.ofNat 32 s.out.slab ≠ id ∨
        h.dest.toNat ≠ s.params.stationNo ∨ s.params.downstream ≠ some h.source.toNat →
      (∀ cls, ∃ v, exec (.acceptReceived h tag id cls) s = .next (finish s v) ∧
        v = { s with line := { s.line with silence := s.silenceHeard, peers := v.line.peers } } ∧
        s.frameTaken v h.source.toNat h.seq) ∧
      (∀ reason, ∃ v, exec (.declineReceived h tag id reason) s = .next (finish s v) ∧
        v = { s with line := { s.line with silence := s.silenceHeard, peers := v.line.peers } } ∧
        s.frameTaken v h.source.toNat h.seq)) ∧
    (s.out.state ≠ .runningOut ∨ s.out.tag ≠ tag ∨ BitVec.ofNat 32 s.out.slab ≠ id ∨
        h.dest.toNat ≠ s.params.stationNo ∨ s.params.downstream ≠ some h.source.toNat →
      ∃ v, exec (.arrivedReceived h tag id) s = .next (finish s v) ∧
        v = { s with line := { s.line with silence := s.silenceHeard, peers := v.line.peers } } ∧
        s.frameTaken v h.source.toNat h.seq) ∧
    (s.inc.state ≠ .reserved ∨ s.inc.tag ≠ tag ∨ s.inc.slab ≠ id.toNat ∨
        h.dest.toNat ≠ s.params.stationNo ∨ s.params.upstream ≠ some h.source.toNat →
      ∃ v, exec (.withdrawReceived h tag id) s = .next (finish s v) ∧
        v = { s with line := { s.line with silence := s.silenceHeard, peers := v.line.peers } } ∧
        s.frameTaken v h.source.toNat h.seq)) ∧
  (∀ (s : State) (h : Addressed) (tag : Byte) (id : Word), s.started = true → s.line.attempt = none →
    s.line.mode = .run ∨ s.line.mode = .halted ∨ s.line.mode = .listening → h.dest.toNat = s.params.stationNo →
    s.params.upstream = some h.source.toNat →
    (s.inc.state = .reserved → s.inc.tag = tag → s.inc.slab = id.toNat → 0 < s.zones.length →
      ∃ v, exec (.withdrawReceived h tag id) s = .next (finish s v) ∧
        v.store.pool = s.store.pool.filter (fun r => r.id != s.inc.slab) ∧ v.inc.state = .idle ∧
        (v.zone 0).state = .free ∧ (∀ j, j ≠ 0 → (v.zone j).state = (s.zone j).state) ∧
        v.port = (s.report .incomingWithdrawn (some 0) (some s.inc.slab)).port ∧ v.out = s.out ∧ v.halt = s.halt ∧
        s.frameTaken v h.source.toNat h.seq)) ∧
  (∀ (s : State) (h : Addressed) (tag : Byte) (id : Word) (cls : MotionClass) (reason : DeclineReason) (c : Instr),
    s.started = true → s.line.attempt = none → s.line.mode = .isolated → s.params.isMember h.source.toNat = true →
    h.source.toNat ≠ s.params.stationNo →
    c = .acceptReceived h tag id cls ∨ c = .declineReceived h tag id reason ∨ c = .arrivedReceived h tag id ∨
      c = .withdrawReceived h tag id →
    (s.line.isolation ≠ some .silence → ∃ v, exec c s = .next (finish s v) ∧
      v = { s with line := { s.line with peers := v.line.peers } } ∧ s.frameTaken v h.source.toNat h.seq) ∧
    (∀ w, s.line.isolation = some .silence →
      w = { s with line := { s.line with mode := .listening, isolation := none, stage := .listen
                                         windowTimer := some 1000, tally := 0 }
                   port := (s.report .lineHeard (value := some h.source.toNat)).port } →
      ∃ v, exec c s = .next (finish s v) ∧ exec c w = .next (finish w v)))

/-- An attempt starts once the line has been idle for 60 bit times, or for 60 + 24 × STATION_NO after a collision: the line
halt slot first, else the earliest fill, its frame with the own number and the running sequence. A collision counts up
and gives the frame back to its slot, the 16th in a row is a transmit fault that isolates; a completion advances the
sequence, resets the count, keeps the fields declared and starts an OFFER's answer timer (R47, R49, R50, R51, R53, R68, R78).
The idle span is the command's operand, too short a one starting nothing (log 18); nothing acts outside its state (log 40);
fill times are step numbers, the slot standing higher in R51's table winning a tie (log 17). -/
def Obligations.AttemptsStartCollideAndComplete : Prop :=
  (∀ (s : State) (idle : Nat),
    (s.started = false ∨ s.line.attempt ≠ none ∨ s.line.mayTransmit = false ∨
        idle < (if s.line.backoff then 60 + s.params.stationNo * 24 else 60) →
      exec (.transmitAttemptStart idle) s = .next s) ∧
    (s.started = true → s.line.attempt = none → s.line.mayTransmit = true →
      (if s.line.backoff then 60 + s.params.stationNo * 24 else 60) ≤ idle →
      ((∀ k, s.line.slots.fill? k = none) → exec (.transmitAttemptStart idle) s = .next (finish s s)) ∧
      (∀ k f b, s.line.slots.fill? k = some f → s.line.slots.body? s.declaration k = some b →
        k = .lineHalt ∨ (s.line.slots.lineHalt = none ∧ ∀ k' f', k' ≠ k → s.line.slots.fill? k' = some f' →
          f < f' ∨ (f = f' ∧ k.ctorIdx < k'.ctorIdx)) →
        exec (.transmitAttemptStart idle) s =
          .next (finish s { s with line := { s.line with
            slots := s.line.slots.clear k
            attempt := some ⟨k, ⟨byteOf s.params.stationNo, s.destOf b, s.line.txSeq, b⟩, f, false⟩ } })))) ∧
  (∀ (s : State) (a : Attempt), s.line.attempt = some a →
    (s.line.consecutive < 15 →
      ∃ v, exec .collision s = .next (finish s v) ∧
        v = { s with line := { s.line with attempt := none, collisions := min (s.line.collisions + 1) 65535
                                           consecutive := s.line.consecutive + 1, backoff := true
                                           slots := v.line.slots } } ∧
        (a.withdrawn = true ∨ s.line.slots.fill? a.slot ≠ none → v.line.slots = s.line.slots) ∧
        (a.withdrawn = false → s.line.slots.fill? a.slot = none → v.line.slots.fill? a.slot = some a.fill ∧
          (∀ d, v.line.slots.body? d a.slot = if a.slot = .declare then some (.declare d) else some a.frame.body) ∧
          ∀ d k, k ≠ a.slot → v.line.slots.fill? k = s.line.slots.fill? k ∧
            v.line.slots.body? d k = s.line.slots.body? d k)) ∧
    (15 ≤ s.line.consecutive →
      ∃ v, exec .collision s = .next (finish s v) ∧ v.line.mode = .isolated ∧
        v.line.isolation = some .transmitFault ∧ v.line.attempt = none ∧ v.line.slots = {} ∧
        v.line.collisions = min (s.line.collisions + 1) 65535 ∧
        v.port = (s.report .transmitFault (value := some a.frame.body.kindCode)).port)) ∧
  (∀ (s : State) (a : Attempt), s.line.attempt = some a →
    ∃ v, exec .attemptComplete s = .next (finish s v) ∧ v.line.attempt = none ∧ v.line.txSeq = s.line.txSeq + 1 ∧
      v.line.consecutive = 0 ∧ v.line.backoff = false ∧ v.line.mode = s.line.mode ∧ v.line.peers = s.line.peers ∧
      (∀ d, a.frame.body = .declare d → v.line.lastDeclared = some d ∧ v.line.slots = s.line.slots ∧ v.out = s.out) ∧
      (∀ o, a.frame.body = .offer o → a.withdrawn = false → s.out.state = .offered → s.out.tag = o.tag →
        v.out = { s.out with answer := some 300 } ∧ v.line.slots = s.line.slots) ∧
      (∀ o, a.frame.body = .offer o → a.withdrawn = true → s.line.mayTransmit = true →
        v.line.slots.withdraw.map (fun f => f.content) = some (.withdraw o.tag o.form.id) ∧ v.out = s.out) ∧
      (∀ o, a.frame.body = .offer o → a.withdrawn = false → s.out.state ≠ .offered ∨ s.out.tag ≠ o.tag →
        v.out = s.out ∧ v.line.slots = s.line.slots) ∧
      ((∀ d, a.frame.body ≠ .declare d) → (∀ o, a.frame.body ≠ .offer o) →
        v.out = s.out ∧ v.line.slots = s.line.slots ∧ v.line.lastDeclared = s.line.lastDeclared) ∧
      v.zones = s.zones ∧ v.store = s.store ∧ v.halt = s.halt ∧ v.port = s.port) ∧
  (∀ s : State, s.line.attempt = none → exec .collision s = .next s ∧ exec .attemptComplete s = .next s)


/-! ## What every step keeps to -/

/-- A report that the queue has room for joins it as the youngest with the next number, this second and its kind's fields;
one that finds 32 queued is discarded, its number taken, and the youngest report gains the LOST_AFTER mark with its lost
count up by one, saturating, nothing else of the queue changing (R183). -/
def Obligations.ReportsJoinTheQueueOrAreCounted : Prop :=
  ∀ (s : State) (kind : ReportKind) (zone slab : Option Nat) (value : Option Int),
    (s.port.reports.length < 32 →
      s.report kind zone slab value =
        { s with port := { s.port with
          reports := s.port.reports ++
            [{ number := s.port.nextNumber, time := s.clk.seconds, kind := kind, zone := zone, slab := slab,
               value := value.map reportValue, lostAfter := false, lost := 0 }]
          nextNumber := s.port.nextNumber + 1 } }) ∧
    (∀ old r, s.port.reports = old ++ [r] → 32 ≤ s.port.reports.length →
      s.report kind zone slab value =
        { s with port := { s.port with
          reports := old ++ [{ r with lostAfter := true, lost := min (r.lost + 1) 65535 }]
          nextNumber := s.port.nextNumber + 1 } }) ∧
    (∀ v : Int, -2147483648 ≤ v → v ≤ 2147483647 → reportValue v = v)

/-- Outside RUN no output moves steel: every zone drive is off, both door groups are off, and PUSH_CMD is off. In RUN a
zone's drive shows on its lines the class of the move the zone serves: its slab's class in the zones it lies between, its
class in the one zone after stage 3, or the class of its crossing, off once the exit is clear; a zone that serves no move is
off. The door groups run as the entry, the final approach or the correction of a placement has it, each while it carries the
slab, and both with the door zone's drive for any other move. PUSH_CMD is on exactly in PUSHING with DOOR_OPEN active in
RUN; and DOOR_OPEN_CMD is on exactly in DOOR_OPENING, PUSHING, RETRACTING and LIMBO of a started station, so that it stays
off until START has ended (R22, R23, R24, R25, R72, R74, R94, R118, R124, R128, R129, R139). The model's own are: a zone left
RESERVED or RECEIVING without its sender is off (log 34), its class that of the slab whose move claimed it while that lies in
the zone before, or the zones' alone (log 67); the far group carries a slab past A in a correction (log 70); DOOR_OPEN_CMD
waits for START's end (log 72). -/
def Obligations.OutputsMoveSteelOnlyInRun : Prop :=
  (∀ s : State, s.line.mode ≠ .run → s.steelStill) ∧
  (∀ s : State, s.pushCmd = true ↔ s.cycle.state = .pushing ∧ s.pins.doorOpen = true ∧ s.line.mode = .run) ∧
  (∀ s : State, s.doorOpenCmd = true ↔
    s.started = true ∧ s.cycle.state ∈ [.doorOpening, .pushing, .retracting, .limbo]) ∧
  (∀ (s : State) (k : Nat), (s.zone k).state ∈ [.free, .expecting, .unknown, .fault] →
    driveLines (s.zoneDrive k) = (false, false, false)) ∧
  (∀ (s : State) (k : Nat), (s.zone k).state = .occupied → (s.zone k).departing = false →
    driveLines (s.zoneDrive k) = (false, false, false)) ∧
  -- the drives of the zones of a move
  (∀ (s : State) (k id : Nat), s.line.mode = .run → (s.zone k).state = .occupied → (s.zone k).departing = true →
    (s.zone k).occ.getLast? = some id → s.zoneDrive k = s.pairClass id k) ∧
  (∀ (s : State) (k id : Nat), s.line.mode = .run → (s.zone k).state = .sending →
    k ≠ s.exitZone ∨ s.out.state ≠ .runningOut → (s.zone k).occ.getLast? = some id →
    s.zoneDrive k = s.pairClass id k) ∧
  (∀ s : State, s.line.mode = .run → (s.zone s.exitZone).state = .sending → s.out.state = .runningOut →
    s.zoneDrive s.exitZone = if s.out.exitClear = true then .held else
      MotionClass.max s.out.downClass (s.effClass s.out.slab s.exitZone)) ∧
  (∀ s : State, s.line.mode = .run → (s.zone 0).state = .reserved ∨ (s.zone 0).state = .receiving →
    s.inc.state ≠ .idle → s.zoneDrive 0 = MotionClass.max s.inc.upClass (s.effClass s.inc.slab 0)) ∧
  (∀ (s : State) (a : Nat), s.line.mode = .run → s.serveClass (a + 1) ≠ .held →
    (s.zone (a + 1)).state = .reserved ∨ (s.zone (a + 1)).state = .receiving → (s.zone (a + 1)).handleMoved = false →
    (s.zoneDrive (a + 1) ≠ .held ↔
      (s.zone a).departing = true ∨ (s.zone a).state = .sending ∨ s.runOn a = true)) ∧
  (∀ (s : State) (a : Nat), s.line.mode = .run →
    (s.zone (a + 1)).state = .reserved ∨ (s.zone (a + 1)).state = .receiving → (s.zone (a + 1)).handleMoved = false →
    (s.zoneDrive (a + 1) = .held ∨ s.zoneDrive (a + 1) = s.serveClass (a + 1)) ∧
    (∀ id, (s.zone (a + 1)).claim = some id → id ∈ (s.zone a).occ → s.serveClass (a + 1) = s.pairClass id a) ∧
    ((∀ id, (s.zone (a + 1)).claim = some id → id ∉ (s.zone a).occ) →
      (s.serveClass (a + 1)).code = max (max (s.zone a).zoneClass.code (s.zone (a + 1)).zoneClass.code)
        (if s.creep = none then 0 else 2))) ∧
  (∀ (s : State) (k id : Nat), s.line.mode = .run → (s.zone k).state = .receiving → (s.zone k).handleMoved = true →
    k ≠ 0 ∨ s.inc.state = .idle → (s.zone k).occ.getLast? = some id →
    s.zoneDrive k = if s.runOn k = true then s.pairClass id k else s.effClass id k) ∧
  (∀ (s : State) (k : Nat), s.runOn k = true ↔ (s.zone k).state = .receiving ∧ (s.zone k).handleMoved = true ∧
    (s.zone k).runOnGranted = true ∧ (s.zone (k + 1)).state = .reserved) ∧
  -- the door groups
  (∀ (s : State) (g : Group), s.params.hasFurnace = false ∨ s.doorEntry.state = .fault → s.groupDrive g = none) ∧
  (∀ (s : State) (g : Group), s.params.hasFurnace = true → s.line.mode = .run → s.doorEntry.state ≠ .fault →
    (s.door.placing = none → s.groupDrive g =
      if s.zoneDrive s.params.doorZone = .held then none else some (s.zoneDrive s.params.doorZone, .forward)) ∧
    (∀ id, s.door.placing = some id → s.door.find? id = none → s.groupDrive g = none) ∧
    (∀ id t, s.door.placing = some id → s.door.find? id = some t →
      (s.door.phase = .idle ∨ s.door.phase = .stopping → s.groupDrive g = none) ∧
      (s.door.phase = .entry → s.groupDrive g =
        if s.groupWanted t .forward g = true ∧ s.zoneDrive s.params.doorZone ≠ .held then
          some (s.zoneDrive s.params.doorZone, .forward) else none) ∧
      (s.door.phase = .approach → s.groupDrive g =
        if s.groupWanted t .forward g = true ∧ s.effClass id s.params.doorZone ≠ .held then some (.creep, .forward)
        else none) ∧
      (∀ d, s.door.phase = .correcting d → s.groupDrive g =
        if s.groupWanted t d g = true ∧ s.effClass id s.params.doorZone ≠ .held then some (.creep, d) else none))) ∧
  (∀ (s : State) (t : Track) (g : Group) (d : Direction) (pos len target : Nat),
    pos = min (t.count.toNat * 1000 / s.params.encPpm) s.params.doorLength → len = s.lengthOf t.id →
    target = t.target.getD 0 →
    (s.groupWanted t d g = true ↔ match g, d with
      | .near, .forward => pos < s.params.doorAxis + len
      | .near, .reverse => target < s.params.doorAxis + len
      | .far, .forward => s.params.doorAxis < target
      | .far, .reverse => s.params.doorAxis < pos)) ∧
  (∀ (s : State) (id k : Nat),
    (s.pairClass id k).code = max (s.effClass id k).code (s.effClass id (k + 1)).code) ∧
  (∀ (s : State) (id k : Nat) (r : Record), s.record? id = some r →
    (s.effClass id k).code =
      max (max r.baseClass.code (if r.holds.any then 3 else 0))
        (max (s.zone k).zoneClass.code (if s.line.mode ≠ .run then 3 else if s.creep = none then 0 else 2))) ∧
  driveLines .run = (true, false, false) ∧ driveLines .reduced = (true, true, false) ∧
  driveLines .creep = (true, false, true) ∧ driveLines .held = (false, false, false)

/-- Single fit and pair fit hold exactly on the inequalities of R121; a role's target is that of R122; the slab at rest in
the approach zone is granted, held or left by the row of R123 that applies, its fit decided with the lengths the records
hold then; a grant marks both zones in one step and gives the slab its track; and a measurement taken afterwards changes the
measured length and the targets and not the admission (R121, R122, R123, R125, R126, R127, R133). The handle a track has is
the slab ID (log 5); the slab counts as come to rest however it came, a landing too (log 80), and the door zone's leaving
FAULT is among the events (log 7). -/
def Obligations.FitChecksFollowTheirInequalities : Prop :=
  (∀ (p : Params) (len : Nat), singleFit p len = true ↔
    (len : Int) ≤ (p.doorWidth : Int) - 2 * (p.doorClear : Int) ∧
    (len : Int) ≤ (p.hearthWidth : Int) - 2 * (p.sideClear : Int)) ∧
  (∀ (p : Params) (len1 w1 len2 w2 : Nat) (permit1 permit2 : Bool),
    pairFit p len1 w1 permit1 len2 w2 permit2 = true ↔
      ((len1 + (p.pairGap + 1) / 2 : Nat) : Int) ≤ ((p.doorWidth / 2 : Nat) : Int) - (p.doorClear : Int) ∧
      ((len2 + p.pairGap / 2 : Nat) : Int) ≤ ((p.doorWidth / 2 : Nat) : Int) - (p.doorClear : Int) ∧
      ((len1 + (p.pairGap + 1) / 2 : Nat) : Int) ≤ ((p.hearthWidth / 2 : Nat) : Int) - (p.sideClear : Int) ∧
      ((len2 + p.pairGap / 2 : Nat) : Int) ≤ ((p.hearthWidth / 2 : Nat) : Int) - (p.sideClear : Int) ∧
      ((w1 : Int) - (w2 : Int)).natAbs ≤ p.widthTol ∧ permit1 = true ∧ permit2 = true) ∧
  (∀ (p : Params) (len : Nat), roleTarget p .passing len = none ∧
    roleTarget p .single len = some (min (p.doorAxis + (len + 1) / 2) p.doorLength) ∧
    roleTarget p .pairFirst len = some (min (p.doorAxis + (p.pairGap + 1) / 2 + len) p.doorLength) ∧
    roleTarget p .pairSecond len = some (min (p.doorAxis - p.pairGap / 2) p.doorLength)) ∧
  (∀ (s : State) (a : Nat) (first second : Record), s.doorEntry.occ.head? = some a → s.record? a = some first →
    s.fitsBeside second =
      pairFit s.params first.length first.width first.permit second.length second.width second.permit) ∧
  (∀ old s : State, runAdmission old s = if admissionDue old s = true then s.evaluateApproach else s) ∧
  (∀ old s : State, admissionDue old s = true ↔
    ¬ ((old.zone s.approach).state = .occupied ∧ (old.zone s.approach).departing = false ∧
      (old.zone s.approach).verified = true ∧ (old.zone s.approach).occ = (s.zone s.approach).occ) ∨
    (old.door.substate ≠ s.door.substate ∧ (s.door.substate = .empty ∨ s.door.substate = .pairWait)) ∨
    (old.doorEntry.state ≠ .free ∧ s.doorEntry.state = .free) ∨
    (old.doorEntry.state = .fault ∧ s.doorEntry.state ≠ .fault) ∨ old.lists.front ≠ s.lists.front ∨
    (old.lists.suspect = true ∧ s.lists.suspect = false) ∨
    (∃ id ∈ (s.zone s.approach).occ, (old.record? id).map Record.ownClass ≠ (s.record? id).map Record.ownClass) ∨
    (old.line.mode ≠ .run ∧ s.line.mode = .run)) ∧
  (∀ (s : State) (r : Record), s.params.hasFurnace = true → (s.zone s.approach).state = .occupied →
    (s.zone s.approach).departing = false → (s.zone s.approach).verified = true →
    (∃ id, (s.zone s.approach).occ.getLast? = some id ∧ s.record? id = some r) →
    (r.dest ≠ s.params.stationNo →
      s.evaluateApproach = match s.door.substate with
        | .pairWait => s.abandonPair 2
        | .empty => s.grantDoor r.id .passing
        | _ => s) ∧
    (r.dest = s.params.stationNo → s.lists.suspect = true → s.evaluateApproach = s) ∧
    (r.dest = s.params.stationNo → s.lists.suspect = false →
      (s.door.substate = .pairWait →
        ((∃ e, s.lists.active[1]? = some e ∧ e.id = r.id) → s.fitsBeside r = true →
          s.evaluateApproach = s.grantDoor r.id .pairSecond) ∧
        ((∃ e, s.lists.active[1]? = some e ∧ e.id = r.id) → s.fitsBeside r = false →
          s.evaluateApproach = s.abandonPair 1) ∧
        ((∀ e, s.lists.active[1]? = some e → e.id ≠ r.id) → s.evaluateApproach = s.abandonPair 2)) ∧
      (s.door.substate = .empty →
        ((∃ e, s.lists.active.head? = some e ∧ e.id = r.id) →
          (singleFit s.params r.length = true →
            s.evaluateApproach = (s.setHold r.id .tooLong false).grantDoor r.id (s.headRole r)) ∧
          (singleFit s.params r.length = false →
            s.evaluateApproach = if r.holds.tooLong = true then s else
              (s.setHold r.id .tooLong true).report .tooLong (some s.approach) (some r.id) (some (r.length : Nat)))) ∧
        ((∀ e, s.lists.active.head? = some e → e.id ≠ r.id) →
          (s.activeIndex r.id = none →
            s.evaluateApproach =
              (let t := (s.setHold r.id .outOfSequence false).setHold r.id .tooLong false
               if r.holds.unlisted = true then t
               else (t.setHold r.id .unlisted true).report .unlisted (some s.approach) (some r.id))) ∧
          (∀ i : Nat, s.activeIndex r.id = some i →
            s.evaluateApproach =
              (let t := (s.setHold r.id .unlisted false).setHold r.id .tooLong false
               if r.holds.outOfSequence = true then t
               else (t.setHold r.id .outOfSequence true).report .outOfSequence (some s.approach) (some r.id)
                 (some i))))) ∧
      (s.door.substate ≠ .pairWait → s.door.substate ≠ .empty → s.evaluateApproach = s))) ∧
  (∀ (s : State) (r : Record), s.headRole r = .pairFirst ↔ r.permit = true ∧ 0 < s.params.pairTimeout ∧
    ∃ e0 e1 rest, s.lists.active = e0 :: e1 :: rest ∧ e0.permit = true ∧ e1.permit = true) ∧
  (∀ (s : State) (r : Record), s.headRole r = .pairFirst ∨ s.headRole r = .single) ∧
  (∀ (s : State) (id : Nat) (role : Role), s.doorGrantReady id role = true ↔
    (s.zone s.approach).state = .occupied ∧ (s.zone s.approach).departing = false ∧
    (s.zone s.approach).verified = true ∧ s.pairClass id s.approach ≠ .held ∧
    (role = .pairSecond → s.doorEntry.state = .occupied ∧ s.doorEntry.departing = false ∧ s.doorEntry.occ.length = 1 ∧
      s.door.substate = .pairWait) ∧
    (role ≠ .pairSecond → s.doorEntry.state = .free)) ∧
  (∀ (s : State) (id : Nat) (role : Role), s.doorGrantReady id role = false → s.grantDoor id role = s) ∧
  (∀ (s v : State) (id : Nat) (role : Role), s.doorGrantReady id role = true → v = s.grantDoor id role →
    1 ≤ s.params.doorZone → s.params.doorZone < s.zones.length → s.entryHigh s.params.doorZone = false →
    v = { s with zones := v.zones, door := v.door, port := (s.watchHit id (some s.params.doorZone) 4).port } ∧
    v.zone s.approach = { s.zone s.approach with departing := true } ∧
    v.doorEntry.state = (if role = .pairSecond then .receiving else .reserved) ∧
    v.doorEntry.occ = s.doorEntry.occ ∧ v.doorEntry.timer = some s.params.motionTimeout ∧
    v.doorEntry.claim = some id ∧
    (∀ j, j ≠ s.approach → j ≠ s.params.doorZone → v.zone j = s.zone j) ∧
    (∃ t, v.door.find? id = some t ∧ t.role = role ∧ t.target = roleTarget s.params role (s.lengthOf id) ∧
      t.count = 0 ∧ t.counting = false ∧ t.corrections = 0 ∧ t.handleMoved = false) ∧
    (∀ x, x ≠ id → v.door.find? x = s.door.find? x) ∧
    (role = .passing → v.door.substate = s.door.substate ∧ v.door.placing = none) ∧
    (role ≠ .passing → v.door.substate = .positioning ∧ v.door.placing = some id) ∧
    (role = .pairSecond → v.door.pairTimer = none ∧ v.door.offCentre = s.door.offCentre) ∧
    (role ≠ .pairSecond → v.door.offCentre = false)) ∧
  (∀ (s : State) (id : Nat) (stamp : Word), s.door.riseCount = none → s.measure id stamp = s) ∧
  (∀ (s v : State) (id : Nat) (stamp : Word) (r : Record) (rise : Int) (len : Nat), s.door.riseCount = some rise →
    s.record? id = some r → v = s.measure id stamp →
    len = min ((s.door.nearCountAt stamp - rise).toNat * 1000 / s.params.encPpm) 9999 →
    v = { s with store := { s.store with pool := v.store.pool }
                 door := { s.door with tracks := v.door.tracks, riseCount := none }, port := v.port } ∧
    (∃ r', v.record? id = some r' ∧ r'.measured = some len ∧ r'.nominal = r.nominal) ∧
    v.door.tracks = s.door.tracks.map (fun t =>
      if t.id = id ∧ t.target ≠ none then { t with target := roleTarget s.params t.role len } else t))

/-- What follows from a command in its own step, in its rounds (log 7). A waiting move is granted (R24, R124) and run-on
reserved (R27); the exit zone's slab is offered (R68), an offer taken back by the first cause of R78, and a crossing started
(R73); the cycle leaves IDLE with its charge (R140), its readiness tests being CycleInputEdges' and the admission
FitChecksFollowTheirInequalities'. The rounds keep to a frame: the clock, the pins, the configuration, the hearth, the pace,
the halt set, the peer table and the queue stand, and so do the port's response, the modes outside LISTENING, the watch
slots, and the lists when no switch is deferred; at a station whose door zone is not zone 0 no record leaves the pool and
the incoming context stands; before the end of START nothing changes but the head's hold reasons. An offer's ages below 0 are
free values (log 68). -/
def Obligations.FollowOnKeepsItsFrame : Prop :=
  (∀ u v t : State, t = finish u v →
    t.clk = v.clk ∧ t.resetLow = v.resetLow ∧ t.pins = v.pins ∧ t.phase = v.phase ∧ t.lastReset = v.lastReset ∧
    t.params = v.params ∧ t.hearth = v.hearth ∧ t.pace = v.pace ∧ t.halt = v.halt ∧ t.creep = v.creep ∧
    t.freeIx = v.freeIx ∧ t.pending = v.pending ∧ t.store.watch1 = v.store.watch1 ∧ t.store.watch2 = v.store.watch2 ∧
    t.port.state = v.port.state ∧ t.port.restartPending = v.port.restartPending ∧ t.port.miso = v.port.miso ∧
    t.port.alertLevel = v.port.alertLevel ∧ t.zones.length = v.zones.length ∧
    t.line.peers = v.line.peers ∧ t.line.txSeq = v.line.txSeq ∧ t.line.lineErrors = v.line.lineErrors ∧
    t.line.foreign = v.line.foreign ∧ t.line.collisions = v.line.collisions ∧
    t.line.consecutive = v.line.consecutive ∧ t.line.backoff = v.line.backoff ∧ t.line.stage = v.line.stage ∧
    t.line.isolation = v.line.isolation ∧ t.line.lastDeclared = v.line.lastDeclared ∧
    t.line.slots.lineHalt = v.line.slots.lineHalt ∧ t.line.slots.accept = v.line.slots.accept ∧
    t.line.slots.decline = v.line.slots.decline ∧ t.line.slots.arrived = v.line.slots.arrived ∧
    t.line.moment = v.line.moment + 1 ∧
    (v.line.mode ≠ .listening → t.line.mode = v.line.mode) ∧
    (v.line.mode = .listening → t.line.mode = .listening ∨ t.line.mode = .run ∨ t.line.mode = .halted) ∧
    (v.lists.deferred = false → t.lists = v.lists) ∧
    (v.params.doorZone ≠ 0 → t.inc = v.inc ∧
      t.store.pool.map (fun r => (r.id, r.dest, r.status)) = v.store.pool.map (fun r => (r.id, r.dest, r.status)))) ∧
  (∀ u v : State, v.started = false →
    (finish u v).zones = v.zones ∧ (finish u v).door = v.door ∧ (finish u v).cycle = v.cycle ∧
    (finish u v).out = v.out ∧ (finish u v).port = v.port ∧ (finish u v).line.slots = v.line.slots) ∧
  -- the rounds of a started station
  (∀ u v : State, v.started = true → ∃ w, w = (settleRounds 6 u (headHanded u v)).syncStall.syncDeclare ∧
    finish u v = { w with line := { w.line with moment := w.line.moment + 1 } }) ∧
  (∀ (old s : State) (n : Nat), settleRounds (n + 1) old s = settleRounds n old (round old s)) ∧
  (∀ old s a b : State, a = s.runLimbo.runWithdraw.runDeferredSwitch →
    b = (runAdmission old (headHanded old a)).runDeferredSwitch →
    round old s = b.runCycle.runGrants.runCrossing.runOffer.syncSuspension.runPassingHeld.leaveListening) ∧
  -- move grants and run-on
  (∀ s : State, s.runGrants = (List.range s.exitZone).foldl State.grantFrom s) ∧
  (∀ (s : State) (k : Nat), s.moveReady k = true ↔
    (s.zone k).state = .occupied ∧ (s.zone k).departing = false ∧ (s.zone k).verified = true ∧ k < s.exitZone ∧
    s.isDoor k = false ∧ s.isDoor (k + 1) = false ∧ (s.zone (k + 1)).state = .free ∧
    ∃ id r, (s.zone k).occ.getLast? = some id ∧ s.record? id = some r ∧ s.routingOf r.dest k = .onward ∧
      s.pairClass id k ≠ .held) ∧
  (∀ s : State, s.passOnReady = true ↔
    s.params.hasFurnace = true ∧ s.doorEntry.state = .occupied ∧ s.doorEntry.departing = false ∧
    s.doorEntry.verified = true ∧ s.door.substate = .empty ∧ s.params.doorZone < s.exitZone ∧
    (s.zone (s.params.doorZone + 1)).state = .free ∧
    ∃ id r, s.doorEntry.occ.getLast? = some id ∧ s.record? id = some r ∧
      s.routingOf r.dest s.params.doorZone = .onward ∧ s.pairClass id s.params.doorZone ≠ .held) ∧
  (∀ (s : State) (k : Nat), s.moveReady k = false → s.isDoor k = false ∨ s.passOnReady = false →
    s.grantFrom k = s) ∧
  (∀ (s v : State) (k : Nat), s.moveReady k = true ∨ (s.isDoor k = true ∧ s.passOnReady = true) → v = s.grantFrom k →
    v = { s with zones := v.zones } ∧ (v.zone k).occ = (s.zone k).occ ∧ (v.zone (k + 1)).occ = (s.zone (k + 1)).occ ∧
    (v.zone (k + 1)).timer = some s.params.motionTimeout ∧ (v.zone (k + 1)).claim = s.lastIn k ∧
    (∀ j, j ≠ k → j ≠ k + 1 → v.zone j = s.zone j) ∧
    ((s.zonePins (k + 1)).entry = false →
      (v.zone k).state = .occupied ∧ (v.zone k).departing = true ∧ (v.zone (k + 1)).state = .reserved) ∧
    ((s.zonePins (k + 1)).entry = true →
      (v.zone k).state = .sending ∧ (v.zone k).timer = some s.params.motionTimeout ∧
      (v.zone (k + 1)).state = .receiving)) ∧
  (∀ (s v : State) (k : Nat), v = s.testRunOn k →
    (s.isApproach k = false → s.isDoor k = false → s.runOnReady k = true →
      v = { s with zones := v.zones } ∧ (∀ j, j ≠ k → j ≠ k + 1 → v.zone j = s.zone j) ∧
      (v.zone (k + 1)).timer = some s.params.motionTimeout ∧ (v.zone (k + 1)).claim = s.lastIn k ∧
      ((s.zonePins (k + 1)).entry = false →
        v.zone k = { s.zone k with runOnGranted := true } ∧ (v.zone (k + 1)).state = .reserved) ∧
      ((s.zonePins (k + 1)).entry = true → k < s.zones.length → (v.zone k).state = .sending ∧
        (v.zone (k + 1)).state = .receiving)) ∧
    (s.isApproach k = true ∨ s.isDoor k = true ∨ s.runOnReady k = false → v = s)) ∧
  (∀ (s : State) (k : Nat), s.runOnReady k = true ↔ k < s.exitZone ∧ (s.zone (k + 1)).state = .free ∧
    ∃ id r, (s.zone k).occ.getLast? = some id ∧ s.record? id = some r ∧ s.routingOf r.dest k = .onward ∧
      s.pairClass id k ≠ .held) ∧
  -- offers, withdrawals and the start of a crossing
  (∀ (s : State) (r : Record), s.offerable = some r ↔
    (s.zone s.exitZone).state = .occupied ∧ (s.zone s.exitZone).departing = false ∧
    (s.zone s.exitZone).verified = true ∧
    ∃ id, (s.zone s.exitZone).occ.getLast? = some id ∧ s.record? id = some r ∧
      s.routingOf r.dest s.exitZone = .handover ∧ s.effClass r.id s.exitZone ≠ .held) ∧
  (∀ s : State, s.downstreamReady = true ↔ ∃ n p d, s.params.downstream = some n ∧ s.line.peer? n = some p ∧
    p.state = .qualified ∧ p.last = some d ∧ d.mode = .run ∧ d.entry = .free) ∧
  (∀ s : State, s.out.state ≠ .idle ∨ s.line.mode ≠ .run ∨ s.out.offerBar = true ∨ s.downstreamReady = false ∨
    s.offerable = none → s.runOffer = s) ∧
  (∀ (s v : State) (r : Record), s.out.state = .idle → s.line.mode = .run → s.out.offerBar = false →
    s.downstreamReady = true → s.offerable = some r → v = s.runOffer →
    v = { s with out := { s.out with state := .offered, tagCounter := s.out.tagCounter + 1
                                     tag := s.out.tagCounter + 1, slab := r.id, answer := none, exitClear := false }
                 line := { s.line with slots := { s.line.slots with offer := v.line.slots.offer } } } ∧
    v.line.slots.offer.map (fun f => f.content) =
      some (.offer ⟨s.out.tagCounter + 1, s.effClass r.id s.exitZone, s.transferForm r⟩)) ∧
  (∀ s : State, s.withdrawCause =
    if (s.record? s.out.slab).any (fun r => r.holds.any) = true then some 1
    else if (s.zone s.exitZone).state = .fault then some 2
    else if s.out.slab ∉ (s.zone s.exitZone).occ then some 3
    else if s.line.mode = .isolated then some 4
    else none) ∧
  (∀ s : State, (s.out.state ≠ .offered ∧ s.out.state ≠ .cleared) ∨ s.withdrawCause = none → s.runWithdraw = s) ∧
  (∀ (s v : State) (c : Nat), s.out.state = .offered ∨ s.out.state = .cleared → s.withdrawCause = some c →
    v = s.runWithdraw →
    v = { s with out := { s.out with state := .idle, answer := none, exitClear := false, offerBar := true }
                 line := { s.line with slots := v.line.slots, attempt := v.line.attempt }
                 port := (s.report .offerWithdrawn (some s.exitZone) (some s.out.slab) (some c)).port } ∧
    (s.line.slots.offer ≠ none →
      v.line.slots = { s.line.slots with offer := none } ∧ v.line.attempt = s.line.attempt) ∧
    (∀ a, s.line.slots.offer = none → s.line.attempt = some a → a.slot = .offer →
      v.line.slots = s.line.slots ∧ v.line.attempt = some { a with withdrawn := true }) ∧
    (s.line.slots.offer = none → (∀ a, s.line.attempt = some a → a.slot ≠ .offer) → v.line.attempt = s.line.attempt ∧
      (s.line.mayTransmit = true →
        v.line.slots.withdraw.map (fun f => f.content) = some (.withdraw s.out.tag (BitVec.ofNat 32 s.out.slab)) ∧
        v.line.slots = { s.line.slots with withdraw := v.line.slots.withdraw }) ∧
      (s.line.mayTransmit = false → v.line.slots = s.line.slots))) ∧
  (∀ s : State, s.out.state ≠ .cleared ∨ s.line.mode ≠ .run ∨
    MotionClass.max s.out.downClass (s.effClass s.out.slab s.exitZone) = .held → s.runCrossing = s) ∧
  (∀ s v : State, s.out.state = .cleared → s.line.mode = .run → s.zones ≠ [] →
    MotionClass.max s.out.downClass (s.effClass s.out.slab s.exitZone) ≠ .held → v = s.runCrossing →
    v = { s with zones := v.zones, out := { s.out with state := .runningOut, exitClear := false, lastDecline := none } } ∧
    (v.zone s.exitZone).state = .sending ∧ (v.zone s.exitZone).timer = some s.params.motionTimeout ∧
    (v.zone s.exitZone).occ = (s.zone s.exitZone).occ ∧ ∀ j, j ≠ s.exitZone → v.zone j = s.zone j) ∧
  -- the start of a charging cycle
  (∀ (s : State) (rs : List Record), s.params.hasFurnace = true → s.cycle.state = .idle → s.line.mode = .run →
    s.door.substate = .positioned → s.doorEntry.state = .occupied → s.doorEntry.departing = false →
    s.doorEntry.occ ≠ [] → s.doorEntry.occ.Nodup → rs = s.doorEntry.occ.filterMap s.record? →
    s.runCycleStart = { s with
      door := { s.door with substate := .charging }
      cycle := { setpoint := s.cycle.setpoint, state := .readyCheck, charge := s.doorEntry.occ
                 offCentre := s.door.offCentre, pitch := (rs.map fun r => r.width).foldl max 0 + s.params.slabGap
                 weightSum := (rs.map fun r => r.weight).sum } }) ∧
  (∀ s : State, s.params.hasFurnace = false ∨ s.cycle.state ≠ .idle ∨ s.line.mode ≠ .run ∨
    s.door.substate ≠ .positioned ∨ s.doorEntry.state ≠ .occupied ∨ s.doorEntry.departing = true ∨
    s.doorEntry.occ = [] → s.runCycleStart = s)

/-! ## Round trips -/

/-- The bytes of every well-formed request spell that request and no other, with every operand at every value, and bytes
that pass the frame check are those of the request they spell (R175, R176, R177). -/
def Obligations.RequestBytesSpellTheirRequest : Prop :=
  (∀ (c : Instr) (bytes : List Byte), c.wf = true → requestBytes c = some bytes → requestOfBytes? bytes = some c) ∧
  (∀ (c : Instr) (bytes : List Byte), requestOfBytes? bytes = some c → requestBytes c = some bytes)

/-- The bytes of every well-formed frame are received as that frame and no other, with every field at every value; bytes
received as a good frame are those of that frame; and the receiver cuts a frame sent after an idle line out of its
characters whole and gives the frame's command, while characters read back with TXEN raised are no frame and no error
(R42, R43, R44, R45, R46, R48). The receiver stands beside the commands (log 40). -/
def Obligations.FrameBytesSpellTheirFrame : Prop :=
  (∀ f : Frame, destRule f.body f.dest = true → (∀ o, f.body = .offer o → o.wf = true) →
    frameOfBytes? (frameBytes f) = some f) ∧
  (∀ (f : Frame) (bytes : List Byte), frameOfBytes? bytes = some f → frameBytes f = bytes) ∧
  (∀ f : Frame, destRule f.body f.dest = true → (∀ o, f.body = .offer o → o.wf = true) →
    ∃ r : Rx, Rx.run .ready ((frameBytes f).map fun b => (false, RxEvent.char b)) = (r, [.frame (frameBytes f)]) ∧
      (RxResult.frame (frameBytes f)).command = f.command) ∧
  (∀ (r : Rx) (es : List (Bool × RxEvent)), (∀ e ∈ es, e.1 = true) → (Rx.run r es).2 = []) ∧
  (∀ (r : Rx) (e : RxEvent) (bits : Nat), 20 < bits → (r.step true e).2 = none ∧
    ((r.step true e).1.step false (.idle bits)) = (.ready, none))

/-! ## Invariants -/

/-- The state after power-on has what every step keeps (R102, R103, R2, R89, R154, R183). -/
def Obligations.ResetHasTheInvariants : Prop :=
  State.reset.listsBounded ∧ State.reset.haltAgrees ∧ State.reset.poolDistinct ∧ State.reset.hearthRoomy

/-- Every step keeps the report queue within 32 reports and each bank within 24 entries without a repeated ID
(R102, R183). -/
def Obligations.EveryStepKeepsTheListsBounded : Prop :=
  ∀ s t : State, s.listsBounded → step s = .next t → t.listsBounded

/-- Every step keeps the halt set a set of members that holds the own number exactly while an own cause stands, with RUN
and HALTED following it; before the end of START it keeps the set and the causes empty, the Line Interface UNSTARTED and no
slab coming in (R54, R89, R92, R93). -/
def Obligations.EveryStepKeepsTheHaltSet : Prop :=
  ∀ s t : State, s.haltAgrees → step s = .next t → t.haltAgrees

/-- Every step keeps the pool within 12 records, no slab ID twice in the pool, in the hearth record, or in both, and no
slab twice in a charge (R2, R3, R137, R146, R160). -/
def Obligations.EveryStepKeepsTheSlabIdsDistinct : Prop :=
  ∀ s t : State, s.poolDistinct → step s = .next t → t.poolDistinct

/-- Every step keeps the hearth within 48 positions and, from START on, its totals those of its positions and within the
limits, with room kept for a charge that has passed the room test (R154, R155, R163). -/
def Obligations.EveryStepKeepsTheHearthInItsLimits : Prop :=
  ∀ s t : State, s.hearthRoomy → step s = .next t → t.hearthRoomy
end

