-- ==== Sys2Proof/Laws/State.lean ====
section
/-! SUPPORT. One lemma per field per update: what each plain update of the state leaves as it was. -/

namespace Sys2Proof.Machine

variable (s : State)

/-! Queueing a report changes the Control Port alone (R183). -/

@[simp] theorem State.report_clk (kind : ReportKind) (zone slab : Option Nat) (value : Option Int) : (s.report kind zone slab value).clk = s.clk := rfl
@[simp] theorem State.report_resetLow (kind : ReportKind) (zone slab : Option Nat) (value : Option Int) : (s.report kind zone slab value).resetLow = s.resetLow := rfl
@[simp] theorem State.report_pins (kind : ReportKind) (zone slab : Option Nat) (value : Option Int) : (s.report kind zone slab value).pins = s.pins := rfl
@[simp] theorem State.report_phase (kind : ReportKind) (zone slab : Option Nat) (value : Option Int) : (s.report kind zone slab value).phase = s.phase := rfl
@[simp] theorem State.report_lastReset (kind : ReportKind) (zone slab : Option Nat) (value : Option Int) : (s.report kind zone slab value).lastReset = s.lastReset := rfl
@[simp] theorem State.report_params (kind : ReportKind) (zone slab : Option Nat) (value : Option Int) : (s.report kind zone slab value).params = s.params := rfl
@[simp] theorem State.report_store (kind : ReportKind) (zone slab : Option Nat) (value : Option Int) : (s.report kind zone slab value).store = s.store := rfl
@[simp] theorem State.report_zones (kind : ReportKind) (zone slab : Option Nat) (value : Option Int) : (s.report kind zone slab value).zones = s.zones := rfl
@[simp] theorem State.report_creep (kind : ReportKind) (zone slab : Option Nat) (value : Option Int) : (s.report kind zone slab value).creep = s.creep := rfl
@[simp] theorem State.report_line (kind : ReportKind) (zone slab : Option Nat) (value : Option Int) : (s.report kind zone slab value).line = s.line := rfl
@[simp] theorem State.report_out (kind : ReportKind) (zone slab : Option Nat) (value : Option Int) : (s.report kind zone slab value).out = s.out := rfl
@[simp] theorem State.report_inc (kind : ReportKind) (zone slab : Option Nat) (value : Option Int) : (s.report kind zone slab value).inc = s.inc := rfl
@[simp] theorem State.report_halt (kind : ReportKind) (zone slab : Option Nat) (value : Option Int) : (s.report kind zone slab value).halt = s.halt := rfl
@[simp] theorem State.report_lists (kind : ReportKind) (zone slab : Option Nat) (value : Option Int) : (s.report kind zone slab value).lists = s.lists := rfl
@[simp] theorem State.report_door (kind : ReportKind) (zone slab : Option Nat) (value : Option Int) : (s.report kind zone slab value).door = s.door := rfl
@[simp] theorem State.report_cycle (kind : ReportKind) (zone slab : Option Nat) (value : Option Int) : (s.report kind zone slab value).cycle = s.cycle := rfl
@[simp] theorem State.report_hearth (kind : ReportKind) (zone slab : Option Nat) (value : Option Int) : (s.report kind zone slab value).hearth = s.hearth := rfl
@[simp] theorem State.report_pace (kind : ReportKind) (zone slab : Option Nat) (value : Option Int) : (s.report kind zone slab value).pace = s.pace := rfl
@[simp] theorem State.report_freeIx (kind : ReportKind) (zone slab : Option Nat) (value : Option Int) : (s.report kind zone slab value).freeIx = s.freeIx := rfl
@[simp] theorem State.report_pending (kind : ReportKind) (zone slab : Option Nat) (value : Option Int) : (s.report kind zone slab value).pending = s.pending := rfl

/-! A change of the Control Port changes nothing else. -/

@[simp] theorem State.modPort_clk (f : ControlPort → ControlPort) : (s.modPort f).clk = s.clk := rfl
@[simp] theorem State.modPort_resetLow (f : ControlPort → ControlPort) : (s.modPort f).resetLow = s.resetLow := rfl
@[simp] theorem State.modPort_pins (f : ControlPort → ControlPort) : (s.modPort f).pins = s.pins := rfl
@[simp] theorem State.modPort_phase (f : ControlPort → ControlPort) : (s.modPort f).phase = s.phase := rfl
@[simp] theorem State.modPort_lastReset (f : ControlPort → ControlPort) : (s.modPort f).lastReset = s.lastReset := rfl
@[simp] theorem State.modPort_params (f : ControlPort → ControlPort) : (s.modPort f).params = s.params := rfl
@[simp] theorem State.modPort_store (f : ControlPort → ControlPort) : (s.modPort f).store = s.store := rfl
@[simp] theorem State.modPort_zones (f : ControlPort → ControlPort) : (s.modPort f).zones = s.zones := rfl
@[simp] theorem State.modPort_creep (f : ControlPort → ControlPort) : (s.modPort f).creep = s.creep := rfl
@[simp] theorem State.modPort_line (f : ControlPort → ControlPort) : (s.modPort f).line = s.line := rfl
@[simp] theorem State.modPort_out (f : ControlPort → ControlPort) : (s.modPort f).out = s.out := rfl
@[simp] theorem State.modPort_inc (f : ControlPort → ControlPort) : (s.modPort f).inc = s.inc := rfl
@[simp] theorem State.modPort_halt (f : ControlPort → ControlPort) : (s.modPort f).halt = s.halt := rfl
@[simp] theorem State.modPort_lists (f : ControlPort → ControlPort) : (s.modPort f).lists = s.lists := rfl
@[simp] theorem State.modPort_door (f : ControlPort → ControlPort) : (s.modPort f).door = s.door := rfl
@[simp] theorem State.modPort_cycle (f : ControlPort → ControlPort) : (s.modPort f).cycle = s.cycle := rfl
@[simp] theorem State.modPort_hearth (f : ControlPort → ControlPort) : (s.modPort f).hearth = s.hearth := rfl
@[simp] theorem State.modPort_pace (f : ControlPort → ControlPort) : (s.modPort f).pace = s.pace := rfl
@[simp] theorem State.modPort_freeIx (f : ControlPort → ControlPort) : (s.modPort f).freeIx = s.freeIx := rfl
@[simp] theorem State.modPort_pending (f : ControlPort → ControlPort) : (s.modPort f).pending = s.pending := rfl

/-! Holding a response changes the Control Port alone (R176). -/

@[simp] theorem State.answer_clk (r : Response) : (s.answer r).clk = s.clk := rfl
@[simp] theorem State.answer_resetLow (r : Response) : (s.answer r).resetLow = s.resetLow := rfl
@[simp] theorem State.answer_pins (r : Response) : (s.answer r).pins = s.pins := rfl
@[simp] theorem State.answer_phase (r : Response) : (s.answer r).phase = s.phase := rfl
@[simp] theorem State.answer_lastReset (r : Response) : (s.answer r).lastReset = s.lastReset := rfl
@[simp] theorem State.answer_params (r : Response) : (s.answer r).params = s.params := rfl
@[simp] theorem State.answer_store (r : Response) : (s.answer r).store = s.store := rfl
@[simp] theorem State.answer_zones (r : Response) : (s.answer r).zones = s.zones := rfl
@[simp] theorem State.answer_creep (r : Response) : (s.answer r).creep = s.creep := rfl
@[simp] theorem State.answer_line (r : Response) : (s.answer r).line = s.line := rfl
@[simp] theorem State.answer_out (r : Response) : (s.answer r).out = s.out := rfl
@[simp] theorem State.answer_inc (r : Response) : (s.answer r).inc = s.inc := rfl
@[simp] theorem State.answer_halt (r : Response) : (s.answer r).halt = s.halt := rfl
@[simp] theorem State.answer_lists (r : Response) : (s.answer r).lists = s.lists := rfl
@[simp] theorem State.answer_door (r : Response) : (s.answer r).door = s.door := rfl
@[simp] theorem State.answer_cycle (r : Response) : (s.answer r).cycle = s.cycle := rfl
@[simp] theorem State.answer_hearth (r : Response) : (s.answer r).hearth = s.hearth := rfl
@[simp] theorem State.answer_pace (r : Response) : (s.answer r).pace = s.pace := rfl
@[simp] theorem State.answer_freeIx (r : Response) : (s.answer r).freeIx = s.freeIx := rfl
@[simp] theorem State.answer_pending (r : Response) : (s.answer r).pending = s.pending := rfl

/-! A change of a record changes the pool alone. -/

@[simp] theorem State.modRecord_clk (id : Nat) (f : Record → Record) : (s.modRecord id f).clk = s.clk := rfl
@[simp] theorem State.modRecord_resetLow (id : Nat) (f : Record → Record) : (s.modRecord id f).resetLow = s.resetLow := rfl
@[simp] theorem State.modRecord_pins (id : Nat) (f : Record → Record) : (s.modRecord id f).pins = s.pins := rfl
@[simp] theorem State.modRecord_phase (id : Nat) (f : Record → Record) : (s.modRecord id f).phase = s.phase := rfl
@[simp] theorem State.modRecord_lastReset (id : Nat) (f : Record → Record) : (s.modRecord id f).lastReset = s.lastReset := rfl
@[simp] theorem State.modRecord_params (id : Nat) (f : Record → Record) : (s.modRecord id f).params = s.params := rfl
@[simp] theorem State.modRecord_zones (id : Nat) (f : Record → Record) : (s.modRecord id f).zones = s.zones := rfl
@[simp] theorem State.modRecord_creep (id : Nat) (f : Record → Record) : (s.modRecord id f).creep = s.creep := rfl
@[simp] theorem State.modRecord_line (id : Nat) (f : Record → Record) : (s.modRecord id f).line = s.line := rfl
@[simp] theorem State.modRecord_out (id : Nat) (f : Record → Record) : (s.modRecord id f).out = s.out := rfl
@[simp] theorem State.modRecord_inc (id : Nat) (f : Record → Record) : (s.modRecord id f).inc = s.inc := rfl
@[simp] theorem State.modRecord_halt (id : Nat) (f : Record → Record) : (s.modRecord id f).halt = s.halt := rfl
@[simp] theorem State.modRecord_lists (id : Nat) (f : Record → Record) : (s.modRecord id f).lists = s.lists := rfl
@[simp] theorem State.modRecord_door (id : Nat) (f : Record → Record) : (s.modRecord id f).door = s.door := rfl
@[simp] theorem State.modRecord_cycle (id : Nat) (f : Record → Record) : (s.modRecord id f).cycle = s.cycle := rfl
@[simp] theorem State.modRecord_hearth (id : Nat) (f : Record → Record) : (s.modRecord id f).hearth = s.hearth := rfl
@[simp] theorem State.modRecord_pace (id : Nat) (f : Record → Record) : (s.modRecord id f).pace = s.pace := rfl
@[simp] theorem State.modRecord_port (id : Nat) (f : Record → Record) : (s.modRecord id f).port = s.port := rfl
@[simp] theorem State.modRecord_freeIx (id : Nat) (f : Record → Record) : (s.modRecord id f).freeIx = s.freeIx := rfl
@[simp] theorem State.modRecord_pending (id : Nat) (f : Record → Record) : (s.modRecord id f).pending = s.pending := rfl

/-! A new record changes the pool alone (R2). -/

@[simp] theorem State.addRecord_clk (r : Record) : (s.addRecord r).clk = s.clk := rfl
@[simp] theorem State.addRecord_resetLow (r : Record) : (s.addRecord r).resetLow = s.resetLow := rfl
@[simp] theorem State.addRecord_pins (r : Record) : (s.addRecord r).pins = s.pins := rfl
@[simp] theorem State.addRecord_phase (r : Record) : (s.addRecord r).phase = s.phase := rfl
@[simp] theorem State.addRecord_lastReset (r : Record) : (s.addRecord r).lastReset = s.lastReset := rfl
@[simp] theorem State.addRecord_params (r : Record) : (s.addRecord r).params = s.params := rfl
@[simp] theorem State.addRecord_zones (r : Record) : (s.addRecord r).zones = s.zones := rfl
@[simp] theorem State.addRecord_creep (r : Record) : (s.addRecord r).creep = s.creep := rfl
@[simp] theorem State.addRecord_line (r : Record) : (s.addRecord r).line = s.line := rfl
@[simp] theorem State.addRecord_out (r : Record) : (s.addRecord r).out = s.out := rfl
@[simp] theorem State.addRecord_inc (r : Record) : (s.addRecord r).inc = s.inc := rfl
@[simp] theorem State.addRecord_halt (r : Record) : (s.addRecord r).halt = s.halt := rfl
@[simp] theorem State.addRecord_lists (r : Record) : (s.addRecord r).lists = s.lists := rfl
@[simp] theorem State.addRecord_door (r : Record) : (s.addRecord r).door = s.door := rfl
@[simp] theorem State.addRecord_cycle (r : Record) : (s.addRecord r).cycle = s.cycle := rfl
@[simp] theorem State.addRecord_hearth (r : Record) : (s.addRecord r).hearth = s.hearth := rfl
@[simp] theorem State.addRecord_pace (r : Record) : (s.addRecord r).pace = s.pace := rfl
@[simp] theorem State.addRecord_port (r : Record) : (s.addRecord r).port = s.port := rfl
@[simp] theorem State.addRecord_freeIx (r : Record) : (s.addRecord r).freeIx = s.freeIx := rfl
@[simp] theorem State.addRecord_pending (r : Record) : (s.addRecord r).pending = s.pending := rfl

/-! A hold reason changes the pool alone (R9). -/

@[simp] theorem State.setHold_clk (id : Nat) (reason : HoldReason) (b : Bool) : (s.setHold id reason b).clk = s.clk := rfl
@[simp] theorem State.setHold_resetLow (id : Nat) (reason : HoldReason) (b : Bool) : (s.setHold id reason b).resetLow = s.resetLow := rfl
@[simp] theorem State.setHold_pins (id : Nat) (reason : HoldReason) (b : Bool) : (s.setHold id reason b).pins = s.pins := rfl
@[simp] theorem State.setHold_phase (id : Nat) (reason : HoldReason) (b : Bool) : (s.setHold id reason b).phase = s.phase := rfl
@[simp] theorem State.setHold_lastReset (id : Nat) (reason : HoldReason) (b : Bool) : (s.setHold id reason b).lastReset = s.lastReset := rfl
@[simp] theorem State.setHold_params (id : Nat) (reason : HoldReason) (b : Bool) : (s.setHold id reason b).params = s.params := rfl
@[simp] theorem State.setHold_zones (id : Nat) (reason : HoldReason) (b : Bool) : (s.setHold id reason b).zones = s.zones := rfl
@[simp] theorem State.setHold_creep (id : Nat) (reason : HoldReason) (b : Bool) : (s.setHold id reason b).creep = s.creep := rfl
@[simp] theorem State.setHold_line (id : Nat) (reason : HoldReason) (b : Bool) : (s.setHold id reason b).line = s.line := rfl
@[simp] theorem State.setHold_out (id : Nat) (reason : HoldReason) (b : Bool) : (s.setHold id reason b).out = s.out := rfl
@[simp] theorem State.setHold_inc (id : Nat) (reason : HoldReason) (b : Bool) : (s.setHold id reason b).inc = s.inc := rfl
@[simp] theorem State.setHold_halt (id : Nat) (reason : HoldReason) (b : Bool) : (s.setHold id reason b).halt = s.halt := rfl
@[simp] theorem State.setHold_lists (id : Nat) (reason : HoldReason) (b : Bool) : (s.setHold id reason b).lists = s.lists := rfl
@[simp] theorem State.setHold_door (id : Nat) (reason : HoldReason) (b : Bool) : (s.setHold id reason b).door = s.door := rfl
@[simp] theorem State.setHold_cycle (id : Nat) (reason : HoldReason) (b : Bool) : (s.setHold id reason b).cycle = s.cycle := rfl
@[simp] theorem State.setHold_hearth (id : Nat) (reason : HoldReason) (b : Bool) : (s.setHold id reason b).hearth = s.hearth := rfl
@[simp] theorem State.setHold_pace (id : Nat) (reason : HoldReason) (b : Bool) : (s.setHold id reason b).pace = s.pace := rfl
@[simp] theorem State.setHold_port (id : Nat) (reason : HoldReason) (b : Bool) : (s.setHold id reason b).port = s.port := rfl
@[simp] theorem State.setHold_freeIx (id : Nat) (reason : HoldReason) (b : Bool) : (s.setHold id reason b).freeIx = s.freeIx := rfl
@[simp] theorem State.setHold_pending (id : Nat) (reason : HoldReason) (b : Bool) : (s.setHold id reason b).pending = s.pending := rfl

/-! A deletion changes the pool, the zone map's handles and the tracks (R8, R115). -/

@[simp] theorem State.delRecord_clk (id : Nat) : (s.delRecord id).clk = s.clk := rfl
@[simp] theorem State.delRecord_resetLow (id : Nat) : (s.delRecord id).resetLow = s.resetLow := rfl
@[simp] theorem State.delRecord_pins (id : Nat) : (s.delRecord id).pins = s.pins := rfl
@[simp] theorem State.delRecord_phase (id : Nat) : (s.delRecord id).phase = s.phase := rfl
@[simp] theorem State.delRecord_lastReset (id : Nat) : (s.delRecord id).lastReset = s.lastReset := rfl
@[simp] theorem State.delRecord_params (id : Nat) : (s.delRecord id).params = s.params := rfl
@[simp] theorem State.delRecord_creep (id : Nat) : (s.delRecord id).creep = s.creep := rfl
@[simp] theorem State.delRecord_line (id : Nat) : (s.delRecord id).line = s.line := rfl
@[simp] theorem State.delRecord_out (id : Nat) : (s.delRecord id).out = s.out := rfl
@[simp] theorem State.delRecord_inc (id : Nat) : (s.delRecord id).inc = s.inc := rfl
@[simp] theorem State.delRecord_halt (id : Nat) : (s.delRecord id).halt = s.halt := rfl
@[simp] theorem State.delRecord_lists (id : Nat) : (s.delRecord id).lists = s.lists := rfl
@[simp] theorem State.delRecord_cycle (id : Nat) : (s.delRecord id).cycle = s.cycle := rfl
@[simp] theorem State.delRecord_hearth (id : Nat) : (s.delRecord id).hearth = s.hearth := rfl
@[simp] theorem State.delRecord_pace (id : Nat) : (s.delRecord id).pace = s.pace := rfl
@[simp] theorem State.delRecord_port (id : Nat) : (s.delRecord id).port = s.port := rfl
@[simp] theorem State.delRecord_freeIx (id : Nat) : (s.delRecord id).freeIx = s.freeIx := rfl
@[simp] theorem State.delRecord_pending (id : Nat) : (s.delRecord id).pending = s.pending := rfl

/-! A zone's entry changes the zone map alone. -/

@[simp] theorem State.setZone_clk (k : Nat) (z : Zone) : (s.setZone k z).clk = s.clk := rfl
@[simp] theorem State.setZone_resetLow (k : Nat) (z : Zone) : (s.setZone k z).resetLow = s.resetLow := rfl
@[simp] theorem State.setZone_pins (k : Nat) (z : Zone) : (s.setZone k z).pins = s.pins := rfl
@[simp] theorem State.setZone_phase (k : Nat) (z : Zone) : (s.setZone k z).phase = s.phase := rfl
@[simp] theorem State.setZone_lastReset (k : Nat) (z : Zone) : (s.setZone k z).lastReset = s.lastReset := rfl
@[simp] theorem State.setZone_params (k : Nat) (z : Zone) : (s.setZone k z).params = s.params := rfl
@[simp] theorem State.setZone_store (k : Nat) (z : Zone) : (s.setZone k z).store = s.store := rfl
@[simp] theorem State.setZone_creep (k : Nat) (z : Zone) : (s.setZone k z).creep = s.creep := rfl
@[simp] theorem State.setZone_line (k : Nat) (z : Zone) : (s.setZone k z).line = s.line := rfl
@[simp] theorem State.setZone_out (k : Nat) (z : Zone) : (s.setZone k z).out = s.out := rfl
@[simp] theorem State.setZone_inc (k : Nat) (z : Zone) : (s.setZone k z).inc = s.inc := rfl
@[simp] theorem State.setZone_halt (k : Nat) (z : Zone) : (s.setZone k z).halt = s.halt := rfl
@[simp] theorem State.setZone_lists (k : Nat) (z : Zone) : (s.setZone k z).lists = s.lists := rfl
@[simp] theorem State.setZone_door (k : Nat) (z : Zone) : (s.setZone k z).door = s.door := rfl
@[simp] theorem State.setZone_cycle (k : Nat) (z : Zone) : (s.setZone k z).cycle = s.cycle := rfl
@[simp] theorem State.setZone_hearth (k : Nat) (z : Zone) : (s.setZone k z).hearth = s.hearth := rfl
@[simp] theorem State.setZone_pace (k : Nat) (z : Zone) : (s.setZone k z).pace = s.pace := rfl
@[simp] theorem State.setZone_port (k : Nat) (z : Zone) : (s.setZone k z).port = s.port := rfl
@[simp] theorem State.setZone_freeIx (k : Nat) (z : Zone) : (s.setZone k z).freeIx = s.freeIx := rfl
@[simp] theorem State.setZone_pending (k : Nat) (z : Zone) : (s.setZone k z).pending = s.pending := rfl

/-! A change of a zone's entry changes the zone map alone. -/

@[simp] theorem State.modZone_clk (k : Nat) (f : Zone → Zone) : (s.modZone k f).clk = s.clk := rfl
@[simp] theorem State.modZone_resetLow (k : Nat) (f : Zone → Zone) : (s.modZone k f).resetLow = s.resetLow := rfl
@[simp] theorem State.modZone_pins (k : Nat) (f : Zone → Zone) : (s.modZone k f).pins = s.pins := rfl
@[simp] theorem State.modZone_phase (k : Nat) (f : Zone → Zone) : (s.modZone k f).phase = s.phase := rfl
@[simp] theorem State.modZone_lastReset (k : Nat) (f : Zone → Zone) : (s.modZone k f).lastReset = s.lastReset := rfl
@[simp] theorem State.modZone_params (k : Nat) (f : Zone → Zone) : (s.modZone k f).params = s.params := rfl
@[simp] theorem State.modZone_store (k : Nat) (f : Zone → Zone) : (s.modZone k f).store = s.store := rfl
@[simp] theorem State.modZone_creep (k : Nat) (f : Zone → Zone) : (s.modZone k f).creep = s.creep := rfl
@[simp] theorem State.modZone_line (k : Nat) (f : Zone → Zone) : (s.modZone k f).line = s.line := rfl
@[simp] theorem State.modZone_out (k : Nat) (f : Zone → Zone) : (s.modZone k f).out = s.out := rfl
@[simp] theorem State.modZone_inc (k : Nat) (f : Zone → Zone) : (s.modZone k f).inc = s.inc := rfl
@[simp] theorem State.modZone_halt (k : Nat) (f : Zone → Zone) : (s.modZone k f).halt = s.halt := rfl
@[simp] theorem State.modZone_lists (k : Nat) (f : Zone → Zone) : (s.modZone k f).lists = s.lists := rfl
@[simp] theorem State.modZone_door (k : Nat) (f : Zone → Zone) : (s.modZone k f).door = s.door := rfl
@[simp] theorem State.modZone_cycle (k : Nat) (f : Zone → Zone) : (s.modZone k f).cycle = s.cycle := rfl
@[simp] theorem State.modZone_hearth (k : Nat) (f : Zone → Zone) : (s.modZone k f).hearth = s.hearth := rfl
@[simp] theorem State.modZone_pace (k : Nat) (f : Zone → Zone) : (s.modZone k f).pace = s.pace := rfl
@[simp] theorem State.modZone_port (k : Nat) (f : Zone → Zone) : (s.modZone k f).port = s.port := rfl
@[simp] theorem State.modZone_freeIx (k : Nat) (f : Zone → Zone) : (s.modZone k f).freeIx = s.freeIx := rfl
@[simp] theorem State.modZone_pending (k : Nat) (f : Zone → Zone) : (s.modZone k f).pending = s.pending := rfl

/-! A change of a zone's lines changes the pins alone. -/

@[simp] theorem State.modPins_clk (k : Nat) (f : ZonePins → ZonePins) : (s.modPins k f).clk = s.clk := rfl
@[simp] theorem State.modPins_resetLow (k : Nat) (f : ZonePins → ZonePins) : (s.modPins k f).resetLow = s.resetLow := rfl
@[simp] theorem State.modPins_phase (k : Nat) (f : ZonePins → ZonePins) : (s.modPins k f).phase = s.phase := rfl
@[simp] theorem State.modPins_lastReset (k : Nat) (f : ZonePins → ZonePins) : (s.modPins k f).lastReset = s.lastReset := rfl
@[simp] theorem State.modPins_params (k : Nat) (f : ZonePins → ZonePins) : (s.modPins k f).params = s.params := rfl
@[simp] theorem State.modPins_store (k : Nat) (f : ZonePins → ZonePins) : (s.modPins k f).store = s.store := rfl
@[simp] theorem State.modPins_zones (k : Nat) (f : ZonePins → ZonePins) : (s.modPins k f).zones = s.zones := rfl
@[simp] theorem State.modPins_creep (k : Nat) (f : ZonePins → ZonePins) : (s.modPins k f).creep = s.creep := rfl
@[simp] theorem State.modPins_line (k : Nat) (f : ZonePins → ZonePins) : (s.modPins k f).line = s.line := rfl
@[simp] theorem State.modPins_out (k : Nat) (f : ZonePins → ZonePins) : (s.modPins k f).out = s.out := rfl
@[simp] theorem State.modPins_inc (k : Nat) (f : ZonePins → ZonePins) : (s.modPins k f).inc = s.inc := rfl
@[simp] theorem State.modPins_halt (k : Nat) (f : ZonePins → ZonePins) : (s.modPins k f).halt = s.halt := rfl
@[simp] theorem State.modPins_lists (k : Nat) (f : ZonePins → ZonePins) : (s.modPins k f).lists = s.lists := rfl
@[simp] theorem State.modPins_door (k : Nat) (f : ZonePins → ZonePins) : (s.modPins k f).door = s.door := rfl
@[simp] theorem State.modPins_cycle (k : Nat) (f : ZonePins → ZonePins) : (s.modPins k f).cycle = s.cycle := rfl
@[simp] theorem State.modPins_hearth (k : Nat) (f : ZonePins → ZonePins) : (s.modPins k f).hearth = s.hearth := rfl
@[simp] theorem State.modPins_pace (k : Nat) (f : ZonePins → ZonePins) : (s.modPins k f).pace = s.pace := rfl
@[simp] theorem State.modPins_port (k : Nat) (f : ZonePins → ZonePins) : (s.modPins k f).port = s.port := rfl
@[simp] theorem State.modPins_freeIx (k : Nat) (f : ZonePins → ZonePins) : (s.modPins k f).freeIx = s.freeIx := rfl
@[simp] theorem State.modPins_pending (k : Nat) (f : ZonePins → ZonePins) : (s.modPins k f).pending = s.pending := rfl

/-! A reservation changes the zone map alone (R24). -/

@[simp] theorem State.reserve_clk (k : Nat) (o : Option Nat) : (s.reserve k o).clk = s.clk := rfl
@[simp] theorem State.reserve_resetLow (k : Nat) (o : Option Nat) : (s.reserve k o).resetLow = s.resetLow := rfl
@[simp] theorem State.reserve_pins (k : Nat) (o : Option Nat) : (s.reserve k o).pins = s.pins := rfl
@[simp] theorem State.reserve_phase (k : Nat) (o : Option Nat) : (s.reserve k o).phase = s.phase := rfl
@[simp] theorem State.reserve_lastReset (k : Nat) (o : Option Nat) : (s.reserve k o).lastReset = s.lastReset := rfl
@[simp] theorem State.reserve_params (k : Nat) (o : Option Nat) : (s.reserve k o).params = s.params := rfl
@[simp] theorem State.reserve_store (k : Nat) (o : Option Nat) : (s.reserve k o).store = s.store := rfl
@[simp] theorem State.reserve_creep (k : Nat) (o : Option Nat) : (s.reserve k o).creep = s.creep := rfl
@[simp] theorem State.reserve_line (k : Nat) (o : Option Nat) : (s.reserve k o).line = s.line := rfl
@[simp] theorem State.reserve_out (k : Nat) (o : Option Nat) : (s.reserve k o).out = s.out := rfl
@[simp] theorem State.reserve_inc (k : Nat) (o : Option Nat) : (s.reserve k o).inc = s.inc := rfl
@[simp] theorem State.reserve_halt (k : Nat) (o : Option Nat) : (s.reserve k o).halt = s.halt := rfl
@[simp] theorem State.reserve_lists (k : Nat) (o : Option Nat) : (s.reserve k o).lists = s.lists := rfl
@[simp] theorem State.reserve_door (k : Nat) (o : Option Nat) : (s.reserve k o).door = s.door := rfl
@[simp] theorem State.reserve_cycle (k : Nat) (o : Option Nat) : (s.reserve k o).cycle = s.cycle := rfl
@[simp] theorem State.reserve_hearth (k : Nat) (o : Option Nat) : (s.reserve k o).hearth = s.hearth := rfl
@[simp] theorem State.reserve_pace (k : Nat) (o : Option Nat) : (s.reserve k o).pace = s.pace := rfl
@[simp] theorem State.reserve_port (k : Nat) (o : Option Nat) : (s.reserve k o).port = s.port := rfl
@[simp] theorem State.reserve_freeIx (k : Nat) (o : Option Nat) : (s.reserve k o).freeIx = s.freeIx := rfl
@[simp] theorem State.reserve_pending (k : Nat) (o : Option Nat) : (s.reserve k o).pending = s.pending := rfl

/-! A leading edge changes the zone map alone (R25). -/

@[simp] theorem State.receive_clk (k : Nat) : (s.receive k).clk = s.clk := rfl
@[simp] theorem State.receive_resetLow (k : Nat) : (s.receive k).resetLow = s.resetLow := rfl
@[simp] theorem State.receive_pins (k : Nat) : (s.receive k).pins = s.pins := rfl
@[simp] theorem State.receive_phase (k : Nat) : (s.receive k).phase = s.phase := rfl
@[simp] theorem State.receive_lastReset (k : Nat) : (s.receive k).lastReset = s.lastReset := rfl
@[simp] theorem State.receive_params (k : Nat) : (s.receive k).params = s.params := rfl
@[simp] theorem State.receive_store (k : Nat) : (s.receive k).store = s.store := rfl
@[simp] theorem State.receive_creep (k : Nat) : (s.receive k).creep = s.creep := rfl
@[simp] theorem State.receive_line (k : Nat) : (s.receive k).line = s.line := rfl
@[simp] theorem State.receive_out (k : Nat) : (s.receive k).out = s.out := rfl
@[simp] theorem State.receive_inc (k : Nat) : (s.receive k).inc = s.inc := rfl
@[simp] theorem State.receive_halt (k : Nat) : (s.receive k).halt = s.halt := rfl
@[simp] theorem State.receive_lists (k : Nat) : (s.receive k).lists = s.lists := rfl
@[simp] theorem State.receive_door (k : Nat) : (s.receive k).door = s.door := rfl
@[simp] theorem State.receive_cycle (k : Nat) : (s.receive k).cycle = s.cycle := rfl
@[simp] theorem State.receive_hearth (k : Nat) : (s.receive k).hearth = s.hearth := rfl
@[simp] theorem State.receive_pace (k : Nat) : (s.receive k).pace = s.pace := rfl
@[simp] theorem State.receive_port (k : Nat) : (s.receive k).port = s.port := rfl
@[simp] theorem State.receive_freeIx (k : Nat) : (s.receive k).freeIx = s.freeIx := rfl
@[simp] theorem State.receive_pending (k : Nat) : (s.receive k).pending = s.pending := rfl

/-! A departing slab's zone changes the zone map alone (R25). -/

@[simp] theorem State.send_clk (k : Nat) : (s.send k).clk = s.clk := rfl
@[simp] theorem State.send_resetLow (k : Nat) : (s.send k).resetLow = s.resetLow := rfl
@[simp] theorem State.send_pins (k : Nat) : (s.send k).pins = s.pins := rfl
@[simp] theorem State.send_phase (k : Nat) : (s.send k).phase = s.phase := rfl
@[simp] theorem State.send_lastReset (k : Nat) : (s.send k).lastReset = s.lastReset := rfl
@[simp] theorem State.send_params (k : Nat) : (s.send k).params = s.params := rfl
@[simp] theorem State.send_store (k : Nat) : (s.send k).store = s.store := rfl
@[simp] theorem State.send_creep (k : Nat) : (s.send k).creep = s.creep := rfl
@[simp] theorem State.send_line (k : Nat) : (s.send k).line = s.line := rfl
@[simp] theorem State.send_out (k : Nat) : (s.send k).out = s.out := rfl
@[simp] theorem State.send_inc (k : Nat) : (s.send k).inc = s.inc := rfl
@[simp] theorem State.send_halt (k : Nat) : (s.send k).halt = s.halt := rfl
@[simp] theorem State.send_lists (k : Nat) : (s.send k).lists = s.lists := rfl
@[simp] theorem State.send_door (k : Nat) : (s.send k).door = s.door := rfl
@[simp] theorem State.send_cycle (k : Nat) : (s.send k).cycle = s.cycle := rfl
@[simp] theorem State.send_hearth (k : Nat) : (s.send k).hearth = s.hearth := rfl
@[simp] theorem State.send_pace (k : Nat) : (s.send k).pace = s.pace := rfl
@[simp] theorem State.send_port (k : Nat) : (s.send k).port = s.port := rfl
@[simp] theorem State.send_freeIx (k : Nat) : (s.send k).freeIx = s.freeIx := rfl
@[simp] theorem State.send_pending (k : Nat) : (s.send k).pending = s.pending := rfl

/-! Stage 2 of a move changes the zone map alone (R25). -/

@[simp] theorem State.leadingEdge_clk (k : Nat) : (s.leadingEdge k).clk = s.clk := rfl
@[simp] theorem State.leadingEdge_resetLow (k : Nat) : (s.leadingEdge k).resetLow = s.resetLow := rfl
@[simp] theorem State.leadingEdge_pins (k : Nat) : (s.leadingEdge k).pins = s.pins := rfl
@[simp] theorem State.leadingEdge_phase (k : Nat) : (s.leadingEdge k).phase = s.phase := rfl
@[simp] theorem State.leadingEdge_lastReset (k : Nat) : (s.leadingEdge k).lastReset = s.lastReset := rfl
@[simp] theorem State.leadingEdge_params (k : Nat) : (s.leadingEdge k).params = s.params := rfl
@[simp] theorem State.leadingEdge_store (k : Nat) : (s.leadingEdge k).store = s.store := rfl
@[simp] theorem State.leadingEdge_creep (k : Nat) : (s.leadingEdge k).creep = s.creep := rfl
@[simp] theorem State.leadingEdge_line (k : Nat) : (s.leadingEdge k).line = s.line := rfl
@[simp] theorem State.leadingEdge_out (k : Nat) : (s.leadingEdge k).out = s.out := rfl
@[simp] theorem State.leadingEdge_inc (k : Nat) : (s.leadingEdge k).inc = s.inc := rfl
@[simp] theorem State.leadingEdge_halt (k : Nat) : (s.leadingEdge k).halt = s.halt := rfl
@[simp] theorem State.leadingEdge_lists (k : Nat) : (s.leadingEdge k).lists = s.lists := rfl
@[simp] theorem State.leadingEdge_door (k : Nat) : (s.leadingEdge k).door = s.door := rfl
@[simp] theorem State.leadingEdge_cycle (k : Nat) : (s.leadingEdge k).cycle = s.cycle := rfl
@[simp] theorem State.leadingEdge_hearth (k : Nat) : (s.leadingEdge k).hearth = s.hearth := rfl
@[simp] theorem State.leadingEdge_pace (k : Nat) : (s.leadingEdge k).pace = s.pace := rfl
@[simp] theorem State.leadingEdge_port (k : Nat) : (s.leadingEdge k).port = s.port := rfl
@[simp] theorem State.leadingEdge_freeIx (k : Nat) : (s.leadingEdge k).freeIx = s.freeIx := rfl
@[simp] theorem State.leadingEdge_pending (k : Nat) : (s.leadingEdge k).pending = s.pending := rfl

/-! The moving of a handle changes the zone map alone (R25). -/

@[simp] theorem State.moveHandle_clk (k id : Nat) : (s.moveHandle k id).clk = s.clk := rfl
@[simp] theorem State.moveHandle_resetLow (k id : Nat) : (s.moveHandle k id).resetLow = s.resetLow := rfl
@[simp] theorem State.moveHandle_pins (k id : Nat) : (s.moveHandle k id).pins = s.pins := rfl
@[simp] theorem State.moveHandle_phase (k id : Nat) : (s.moveHandle k id).phase = s.phase := rfl
@[simp] theorem State.moveHandle_lastReset (k id : Nat) : (s.moveHandle k id).lastReset = s.lastReset := rfl
@[simp] theorem State.moveHandle_params (k id : Nat) : (s.moveHandle k id).params = s.params := rfl
@[simp] theorem State.moveHandle_store (k id : Nat) : (s.moveHandle k id).store = s.store := rfl
@[simp] theorem State.moveHandle_creep (k id : Nat) : (s.moveHandle k id).creep = s.creep := rfl
@[simp] theorem State.moveHandle_line (k id : Nat) : (s.moveHandle k id).line = s.line := rfl
@[simp] theorem State.moveHandle_out (k id : Nat) : (s.moveHandle k id).out = s.out := rfl
@[simp] theorem State.moveHandle_inc (k id : Nat) : (s.moveHandle k id).inc = s.inc := rfl
@[simp] theorem State.moveHandle_halt (k id : Nat) : (s.moveHandle k id).halt = s.halt := rfl
@[simp] theorem State.moveHandle_lists (k id : Nat) : (s.moveHandle k id).lists = s.lists := rfl
@[simp] theorem State.moveHandle_door (k id : Nat) : (s.moveHandle k id).door = s.door := rfl
@[simp] theorem State.moveHandle_cycle (k id : Nat) : (s.moveHandle k id).cycle = s.cycle := rfl
@[simp] theorem State.moveHandle_hearth (k id : Nat) : (s.moveHandle k id).hearth = s.hearth := rfl
@[simp] theorem State.moveHandle_pace (k id : Nat) : (s.moveHandle k id).pace = s.pace := rfl
@[simp] theorem State.moveHandle_port (k id : Nat) : (s.moveHandle k id).port = s.port := rfl
@[simp] theorem State.moveHandle_freeIx (k id : Nat) : (s.moveHandle k id).freeIx = s.freeIx := rfl
@[simp] theorem State.moveHandle_pending (k id : Nat) : (s.moveHandle k id).pending = s.pending := rfl

/-! A zone's becoming FREE changes the zone map alone. -/

@[simp] theorem State.freeZone_clk (k : Nat) : (s.freeZone k).clk = s.clk := rfl
@[simp] theorem State.freeZone_resetLow (k : Nat) : (s.freeZone k).resetLow = s.resetLow := rfl
@[simp] theorem State.freeZone_pins (k : Nat) : (s.freeZone k).pins = s.pins := rfl
@[simp] theorem State.freeZone_phase (k : Nat) : (s.freeZone k).phase = s.phase := rfl
@[simp] theorem State.freeZone_lastReset (k : Nat) : (s.freeZone k).lastReset = s.lastReset := rfl
@[simp] theorem State.freeZone_params (k : Nat) : (s.freeZone k).params = s.params := rfl
@[simp] theorem State.freeZone_store (k : Nat) : (s.freeZone k).store = s.store := rfl
@[simp] theorem State.freeZone_creep (k : Nat) : (s.freeZone k).creep = s.creep := rfl
@[simp] theorem State.freeZone_line (k : Nat) : (s.freeZone k).line = s.line := rfl
@[simp] theorem State.freeZone_out (k : Nat) : (s.freeZone k).out = s.out := rfl
@[simp] theorem State.freeZone_inc (k : Nat) : (s.freeZone k).inc = s.inc := rfl
@[simp] theorem State.freeZone_halt (k : Nat) : (s.freeZone k).halt = s.halt := rfl
@[simp] theorem State.freeZone_lists (k : Nat) : (s.freeZone k).lists = s.lists := rfl
@[simp] theorem State.freeZone_door (k : Nat) : (s.freeZone k).door = s.door := rfl
@[simp] theorem State.freeZone_cycle (k : Nat) : (s.freeZone k).cycle = s.cycle := rfl
@[simp] theorem State.freeZone_hearth (k : Nat) : (s.freeZone k).hearth = s.hearth := rfl
@[simp] theorem State.freeZone_pace (k : Nat) : (s.freeZone k).pace = s.pace := rfl
@[simp] theorem State.freeZone_port (k : Nat) : (s.freeZone k).port = s.port := rfl
@[simp] theorem State.freeZone_freeIx (k : Nat) : (s.freeZone k).freeIx = s.freeIx := rfl
@[simp] theorem State.freeZone_pending (k : Nat) : (s.freeZone k).pending = s.pending := rfl

/-! A zone's marking in FAULT changes the zone map alone (R36). -/

@[simp] theorem State.markFault_clk (k : Nat) (kind : FaultKind) (partner : Option Nat) : (s.markFault k kind partner).clk = s.clk := rfl
@[simp] theorem State.markFault_resetLow (k : Nat) (kind : FaultKind) (partner : Option Nat) : (s.markFault k kind partner).resetLow = s.resetLow := rfl
@[simp] theorem State.markFault_pins (k : Nat) (kind : FaultKind) (partner : Option Nat) : (s.markFault k kind partner).pins = s.pins := rfl
@[simp] theorem State.markFault_phase (k : Nat) (kind : FaultKind) (partner : Option Nat) : (s.markFault k kind partner).phase = s.phase := rfl
@[simp] theorem State.markFault_lastReset (k : Nat) (kind : FaultKind) (partner : Option Nat) : (s.markFault k kind partner).lastReset = s.lastReset := rfl
@[simp] theorem State.markFault_params (k : Nat) (kind : FaultKind) (partner : Option Nat) : (s.markFault k kind partner).params = s.params := rfl
@[simp] theorem State.markFault_store (k : Nat) (kind : FaultKind) (partner : Option Nat) : (s.markFault k kind partner).store = s.store := rfl
@[simp] theorem State.markFault_creep (k : Nat) (kind : FaultKind) (partner : Option Nat) : (s.markFault k kind partner).creep = s.creep := rfl
@[simp] theorem State.markFault_line (k : Nat) (kind : FaultKind) (partner : Option Nat) : (s.markFault k kind partner).line = s.line := rfl
@[simp] theorem State.markFault_out (k : Nat) (kind : FaultKind) (partner : Option Nat) : (s.markFault k kind partner).out = s.out := rfl
@[simp] theorem State.markFault_inc (k : Nat) (kind : FaultKind) (partner : Option Nat) : (s.markFault k kind partner).inc = s.inc := rfl
@[simp] theorem State.markFault_halt (k : Nat) (kind : FaultKind) (partner : Option Nat) : (s.markFault k kind partner).halt = s.halt := rfl
@[simp] theorem State.markFault_lists (k : Nat) (kind : FaultKind) (partner : Option Nat) : (s.markFault k kind partner).lists = s.lists := rfl
@[simp] theorem State.markFault_door (k : Nat) (kind : FaultKind) (partner : Option Nat) : (s.markFault k kind partner).door = s.door := rfl
@[simp] theorem State.markFault_cycle (k : Nat) (kind : FaultKind) (partner : Option Nat) : (s.markFault k kind partner).cycle = s.cycle := rfl
@[simp] theorem State.markFault_hearth (k : Nat) (kind : FaultKind) (partner : Option Nat) : (s.markFault k kind partner).hearth = s.hearth := rfl
@[simp] theorem State.markFault_pace (k : Nat) (kind : FaultKind) (partner : Option Nat) : (s.markFault k kind partner).pace = s.pace := rfl
@[simp] theorem State.markFault_port (k : Nat) (kind : FaultKind) (partner : Option Nat) : (s.markFault k kind partner).port = s.port := rfl
@[simp] theorem State.markFault_freeIx (k : Nat) (kind : FaultKind) (partner : Option Nat) : (s.markFault k kind partner).freeIx = s.freeIx := rfl
@[simp] theorem State.markFault_pending (k : Nat) (kind : FaultKind) (partner : Option Nat) : (s.markFault k kind partner).pending = s.pending := rfl

/-! A zone's coming to rest changes the zone map alone. -/

@[simp] theorem State.restZone_clk (k : Nat) : (s.restZone k).clk = s.clk := rfl
@[simp] theorem State.restZone_resetLow (k : Nat) : (s.restZone k).resetLow = s.resetLow := rfl
@[simp] theorem State.restZone_pins (k : Nat) : (s.restZone k).pins = s.pins := rfl
@[simp] theorem State.restZone_phase (k : Nat) : (s.restZone k).phase = s.phase := rfl
@[simp] theorem State.restZone_lastReset (k : Nat) : (s.restZone k).lastReset = s.lastReset := rfl
@[simp] theorem State.restZone_params (k : Nat) : (s.restZone k).params = s.params := rfl
@[simp] theorem State.restZone_store (k : Nat) : (s.restZone k).store = s.store := rfl
@[simp] theorem State.restZone_creep (k : Nat) : (s.restZone k).creep = s.creep := rfl
@[simp] theorem State.restZone_line (k : Nat) : (s.restZone k).line = s.line := rfl
@[simp] theorem State.restZone_out (k : Nat) : (s.restZone k).out = s.out := rfl
@[simp] theorem State.restZone_inc (k : Nat) : (s.restZone k).inc = s.inc := rfl
@[simp] theorem State.restZone_halt (k : Nat) : (s.restZone k).halt = s.halt := rfl
@[simp] theorem State.restZone_lists (k : Nat) : (s.restZone k).lists = s.lists := rfl
@[simp] theorem State.restZone_door (k : Nat) : (s.restZone k).door = s.door := rfl
@[simp] theorem State.restZone_cycle (k : Nat) : (s.restZone k).cycle = s.cycle := rfl
@[simp] theorem State.restZone_hearth (k : Nat) : (s.restZone k).hearth = s.hearth := rfl
@[simp] theorem State.restZone_pace (k : Nat) : (s.restZone k).pace = s.pace := rfl
@[simp] theorem State.restZone_port (k : Nat) : (s.restZone k).port = s.port := rfl
@[simp] theorem State.restZone_freeIx (k : Nat) : (s.restZone k).freeIx = s.freeIx := rfl
@[simp] theorem State.restZone_pending (k : Nat) : (s.restZone k).pending = s.pending := rfl

/-! A zone's becoming UNKNOWN changes the zone map alone (R31, R35). -/

@[simp] theorem State.makeUnknown_clk (k : Nat) : (s.makeUnknown k).clk = s.clk := rfl
@[simp] theorem State.makeUnknown_resetLow (k : Nat) : (s.makeUnknown k).resetLow = s.resetLow := rfl
@[simp] theorem State.makeUnknown_pins (k : Nat) : (s.makeUnknown k).pins = s.pins := rfl
@[simp] theorem State.makeUnknown_phase (k : Nat) : (s.makeUnknown k).phase = s.phase := rfl
@[simp] theorem State.makeUnknown_lastReset (k : Nat) : (s.makeUnknown k).lastReset = s.lastReset := rfl
@[simp] theorem State.makeUnknown_params (k : Nat) : (s.makeUnknown k).params = s.params := rfl
@[simp] theorem State.makeUnknown_store (k : Nat) : (s.makeUnknown k).store = s.store := rfl
@[simp] theorem State.makeUnknown_creep (k : Nat) : (s.makeUnknown k).creep = s.creep := rfl
@[simp] theorem State.makeUnknown_line (k : Nat) : (s.makeUnknown k).line = s.line := rfl
@[simp] theorem State.makeUnknown_out (k : Nat) : (s.makeUnknown k).out = s.out := rfl
@[simp] theorem State.makeUnknown_inc (k : Nat) : (s.makeUnknown k).inc = s.inc := rfl
@[simp] theorem State.makeUnknown_halt (k : Nat) : (s.makeUnknown k).halt = s.halt := rfl
@[simp] theorem State.makeUnknown_lists (k : Nat) : (s.makeUnknown k).lists = s.lists := rfl
@[simp] theorem State.makeUnknown_door (k : Nat) : (s.makeUnknown k).door = s.door := rfl
@[simp] theorem State.makeUnknown_cycle (k : Nat) : (s.makeUnknown k).cycle = s.cycle := rfl
@[simp] theorem State.makeUnknown_hearth (k : Nat) : (s.makeUnknown k).hearth = s.hearth := rfl
@[simp] theorem State.makeUnknown_pace (k : Nat) : (s.makeUnknown k).pace = s.pace := rfl
@[simp] theorem State.makeUnknown_port (k : Nat) : (s.makeUnknown k).port = s.port := rfl
@[simp] theorem State.makeUnknown_freeIx (k : Nat) : (s.makeUnknown k).freeIx = s.freeIx := rfl
@[simp] theorem State.makeUnknown_pending (k : Nat) : (s.makeUnknown k).pending = s.pending := rfl

/-! A slab's binding to a zone changes the zone map alone. -/

@[simp] theorem State.bind_clk (k id : Nat) : (s.bind k id).clk = s.clk := rfl
@[simp] theorem State.bind_resetLow (k id : Nat) : (s.bind k id).resetLow = s.resetLow := rfl
@[simp] theorem State.bind_pins (k id : Nat) : (s.bind k id).pins = s.pins := rfl
@[simp] theorem State.bind_phase (k id : Nat) : (s.bind k id).phase = s.phase := rfl
@[simp] theorem State.bind_lastReset (k id : Nat) : (s.bind k id).lastReset = s.lastReset := rfl
@[simp] theorem State.bind_params (k id : Nat) : (s.bind k id).params = s.params := rfl
@[simp] theorem State.bind_store (k id : Nat) : (s.bind k id).store = s.store := rfl
@[simp] theorem State.bind_creep (k id : Nat) : (s.bind k id).creep = s.creep := rfl
@[simp] theorem State.bind_line (k id : Nat) : (s.bind k id).line = s.line := rfl
@[simp] theorem State.bind_out (k id : Nat) : (s.bind k id).out = s.out := rfl
@[simp] theorem State.bind_inc (k id : Nat) : (s.bind k id).inc = s.inc := rfl
@[simp] theorem State.bind_halt (k id : Nat) : (s.bind k id).halt = s.halt := rfl
@[simp] theorem State.bind_lists (k id : Nat) : (s.bind k id).lists = s.lists := rfl
@[simp] theorem State.bind_door (k id : Nat) : (s.bind k id).door = s.door := rfl
@[simp] theorem State.bind_cycle (k id : Nat) : (s.bind k id).cycle = s.cycle := rfl
@[simp] theorem State.bind_hearth (k id : Nat) : (s.bind k id).hearth = s.hearth := rfl
@[simp] theorem State.bind_pace (k id : Nat) : (s.bind k id).pace = s.pace := rfl
@[simp] theorem State.bind_port (k id : Nat) : (s.bind k id).port = s.port := rfl
@[simp] theorem State.bind_freeIx (k id : Nat) : (s.bind k id).freeIx = s.freeIx := rfl
@[simp] theorem State.bind_pending (k id : Nat) : (s.bind k id).pending = s.pending := rfl

/-! The removal of a track changes the door zone context alone (R115). -/

@[simp] theorem State.dropTrack_clk (id : Nat) : (s.dropTrack id).clk = s.clk := rfl
@[simp] theorem State.dropTrack_resetLow (id : Nat) : (s.dropTrack id).resetLow = s.resetLow := rfl
@[simp] theorem State.dropTrack_pins (id : Nat) : (s.dropTrack id).pins = s.pins := rfl
@[simp] theorem State.dropTrack_phase (id : Nat) : (s.dropTrack id).phase = s.phase := rfl
@[simp] theorem State.dropTrack_lastReset (id : Nat) : (s.dropTrack id).lastReset = s.lastReset := rfl
@[simp] theorem State.dropTrack_params (id : Nat) : (s.dropTrack id).params = s.params := rfl
@[simp] theorem State.dropTrack_store (id : Nat) : (s.dropTrack id).store = s.store := rfl
@[simp] theorem State.dropTrack_zones (id : Nat) : (s.dropTrack id).zones = s.zones := rfl
@[simp] theorem State.dropTrack_creep (id : Nat) : (s.dropTrack id).creep = s.creep := rfl
@[simp] theorem State.dropTrack_line (id : Nat) : (s.dropTrack id).line = s.line := rfl
@[simp] theorem State.dropTrack_out (id : Nat) : (s.dropTrack id).out = s.out := rfl
@[simp] theorem State.dropTrack_inc (id : Nat) : (s.dropTrack id).inc = s.inc := rfl
@[simp] theorem State.dropTrack_halt (id : Nat) : (s.dropTrack id).halt = s.halt := rfl
@[simp] theorem State.dropTrack_lists (id : Nat) : (s.dropTrack id).lists = s.lists := rfl
@[simp] theorem State.dropTrack_cycle (id : Nat) : (s.dropTrack id).cycle = s.cycle := rfl
@[simp] theorem State.dropTrack_hearth (id : Nat) : (s.dropTrack id).hearth = s.hearth := rfl
@[simp] theorem State.dropTrack_pace (id : Nat) : (s.dropTrack id).pace = s.pace := rfl
@[simp] theorem State.dropTrack_port (id : Nat) : (s.dropTrack id).port = s.port := rfl
@[simp] theorem State.dropTrack_freeIx (id : Nat) : (s.dropTrack id).freeIx = s.freeIx := rfl
@[simp] theorem State.dropTrack_pending (id : Nat) : (s.dropTrack id).pending = s.pending := rfl

/-! A change of a track changes the door zone context alone. -/

@[simp] theorem State.modTrack_clk (id : Nat) (f : Track → Track) : (s.modTrack id f).clk = s.clk := rfl
@[simp] theorem State.modTrack_resetLow (id : Nat) (f : Track → Track) : (s.modTrack id f).resetLow = s.resetLow := rfl
@[simp] theorem State.modTrack_pins (id : Nat) (f : Track → Track) : (s.modTrack id f).pins = s.pins := rfl
@[simp] theorem State.modTrack_phase (id : Nat) (f : Track → Track) : (s.modTrack id f).phase = s.phase := rfl
@[simp] theorem State.modTrack_lastReset (id : Nat) (f : Track → Track) : (s.modTrack id f).lastReset = s.lastReset := rfl
@[simp] theorem State.modTrack_params (id : Nat) (f : Track → Track) : (s.modTrack id f).params = s.params := rfl
@[simp] theorem State.modTrack_store (id : Nat) (f : Track → Track) : (s.modTrack id f).store = s.store := rfl
@[simp] theorem State.modTrack_zones (id : Nat) (f : Track → Track) : (s.modTrack id f).zones = s.zones := rfl
@[simp] theorem State.modTrack_creep (id : Nat) (f : Track → Track) : (s.modTrack id f).creep = s.creep := rfl
@[simp] theorem State.modTrack_line (id : Nat) (f : Track → Track) : (s.modTrack id f).line = s.line := rfl
@[simp] theorem State.modTrack_out (id : Nat) (f : Track → Track) : (s.modTrack id f).out = s.out := rfl
@[simp] theorem State.modTrack_inc (id : Nat) (f : Track → Track) : (s.modTrack id f).inc = s.inc := rfl
@[simp] theorem State.modTrack_halt (id : Nat) (f : Track → Track) : (s.modTrack id f).halt = s.halt := rfl
@[simp] theorem State.modTrack_lists (id : Nat) (f : Track → Track) : (s.modTrack id f).lists = s.lists := rfl
@[simp] theorem State.modTrack_cycle (id : Nat) (f : Track → Track) : (s.modTrack id f).cycle = s.cycle := rfl
@[simp] theorem State.modTrack_hearth (id : Nat) (f : Track → Track) : (s.modTrack id f).hearth = s.hearth := rfl
@[simp] theorem State.modTrack_pace (id : Nat) (f : Track → Track) : (s.modTrack id f).pace = s.pace := rfl
@[simp] theorem State.modTrack_port (id : Nat) (f : Track → Track) : (s.modTrack id f).port = s.port := rfl
@[simp] theorem State.modTrack_freeIx (id : Nat) (f : Track → Track) : (s.modTrack id f).freeIx = s.freeIx := rfl
@[simp] theorem State.modTrack_pending (id : Nat) (f : Track → Track) : (s.modTrack id f).pending = s.pending := rfl

/-! Stopping the groups changes the door zone context alone (R128). -/

@[simp] theorem State.stopGroups_clk : (s.stopGroups).clk = s.clk := rfl
@[simp] theorem State.stopGroups_resetLow : (s.stopGroups).resetLow = s.resetLow := rfl
@[simp] theorem State.stopGroups_pins : (s.stopGroups).pins = s.pins := rfl
@[simp] theorem State.stopGroups_phase : (s.stopGroups).phase = s.phase := rfl
@[simp] theorem State.stopGroups_lastReset : (s.stopGroups).lastReset = s.lastReset := rfl
@[simp] theorem State.stopGroups_params : (s.stopGroups).params = s.params := rfl
@[simp] theorem State.stopGroups_store : (s.stopGroups).store = s.store := rfl
@[simp] theorem State.stopGroups_zones : (s.stopGroups).zones = s.zones := rfl
@[simp] theorem State.stopGroups_creep : (s.stopGroups).creep = s.creep := rfl
@[simp] theorem State.stopGroups_line : (s.stopGroups).line = s.line := rfl
@[simp] theorem State.stopGroups_out : (s.stopGroups).out = s.out := rfl
@[simp] theorem State.stopGroups_inc : (s.stopGroups).inc = s.inc := rfl
@[simp] theorem State.stopGroups_halt : (s.stopGroups).halt = s.halt := rfl
@[simp] theorem State.stopGroups_lists : (s.stopGroups).lists = s.lists := rfl
@[simp] theorem State.stopGroups_cycle : (s.stopGroups).cycle = s.cycle := rfl
@[simp] theorem State.stopGroups_hearth : (s.stopGroups).hearth = s.hearth := rfl
@[simp] theorem State.stopGroups_pace : (s.stopGroups).pace = s.pace := rfl
@[simp] theorem State.stopGroups_port : (s.stopGroups).port = s.port := rfl
@[simp] theorem State.stopGroups_freeIx : (s.stopGroups).freeIx = s.freeIx := rfl
@[simp] theorem State.stopGroups_pending : (s.stopGroups).pending = s.pending := rfl

/-! Taking the tracks' positions as placed changes the door zone context alone. -/

@[simp] theorem State.settlePlaced_clk (afresh : Bool) : (s.settlePlaced afresh).clk = s.clk := rfl
@[simp] theorem State.settlePlaced_resetLow (afresh : Bool) : (s.settlePlaced afresh).resetLow = s.resetLow := rfl
@[simp] theorem State.settlePlaced_pins (afresh : Bool) : (s.settlePlaced afresh).pins = s.pins := rfl
@[simp] theorem State.settlePlaced_phase (afresh : Bool) : (s.settlePlaced afresh).phase = s.phase := rfl
@[simp] theorem State.settlePlaced_lastReset (afresh : Bool) : (s.settlePlaced afresh).lastReset = s.lastReset := rfl
@[simp] theorem State.settlePlaced_params (afresh : Bool) : (s.settlePlaced afresh).params = s.params := rfl
@[simp] theorem State.settlePlaced_store (afresh : Bool) : (s.settlePlaced afresh).store = s.store := rfl
@[simp] theorem State.settlePlaced_zones (afresh : Bool) : (s.settlePlaced afresh).zones = s.zones := rfl
@[simp] theorem State.settlePlaced_creep (afresh : Bool) : (s.settlePlaced afresh).creep = s.creep := rfl
@[simp] theorem State.settlePlaced_line (afresh : Bool) : (s.settlePlaced afresh).line = s.line := rfl
@[simp] theorem State.settlePlaced_out (afresh : Bool) : (s.settlePlaced afresh).out = s.out := rfl
@[simp] theorem State.settlePlaced_inc (afresh : Bool) : (s.settlePlaced afresh).inc = s.inc := rfl
@[simp] theorem State.settlePlaced_halt (afresh : Bool) : (s.settlePlaced afresh).halt = s.halt := rfl
@[simp] theorem State.settlePlaced_lists (afresh : Bool) : (s.settlePlaced afresh).lists = s.lists := rfl
@[simp] theorem State.settlePlaced_cycle (afresh : Bool) : (s.settlePlaced afresh).cycle = s.cycle := rfl
@[simp] theorem State.settlePlaced_hearth (afresh : Bool) : (s.settlePlaced afresh).hearth = s.hearth := rfl
@[simp] theorem State.settlePlaced_pace (afresh : Bool) : (s.settlePlaced afresh).pace = s.pace := rfl
@[simp] theorem State.settlePlaced_port (afresh : Bool) : (s.settlePlaced afresh).port = s.port := rfl
@[simp] theorem State.settlePlaced_freeIx (afresh : Bool) : (s.settlePlaced afresh).freeIx = s.freeIx := rfl
@[simp] theorem State.settlePlaced_pending (afresh : Bool) : (s.settlePlaced afresh).pending = s.pending := rfl

/-! Giving roles changes the door zone context alone (R135). -/

@[simp] theorem State.withRoles_clk (passing : Bool) : (s.withRoles passing).clk = s.clk := rfl
@[simp] theorem State.withRoles_resetLow (passing : Bool) : (s.withRoles passing).resetLow = s.resetLow := rfl
@[simp] theorem State.withRoles_pins (passing : Bool) : (s.withRoles passing).pins = s.pins := rfl
@[simp] theorem State.withRoles_phase (passing : Bool) : (s.withRoles passing).phase = s.phase := rfl
@[simp] theorem State.withRoles_lastReset (passing : Bool) : (s.withRoles passing).lastReset = s.lastReset := rfl
@[simp] theorem State.withRoles_params (passing : Bool) : (s.withRoles passing).params = s.params := rfl
@[simp] theorem State.withRoles_store (passing : Bool) : (s.withRoles passing).store = s.store := rfl
@[simp] theorem State.withRoles_zones (passing : Bool) : (s.withRoles passing).zones = s.zones := rfl
@[simp] theorem State.withRoles_creep (passing : Bool) : (s.withRoles passing).creep = s.creep := rfl
@[simp] theorem State.withRoles_line (passing : Bool) : (s.withRoles passing).line = s.line := rfl
@[simp] theorem State.withRoles_out (passing : Bool) : (s.withRoles passing).out = s.out := rfl
@[simp] theorem State.withRoles_inc (passing : Bool) : (s.withRoles passing).inc = s.inc := rfl
@[simp] theorem State.withRoles_halt (passing : Bool) : (s.withRoles passing).halt = s.halt := rfl
@[simp] theorem State.withRoles_lists (passing : Bool) : (s.withRoles passing).lists = s.lists := rfl
@[simp] theorem State.withRoles_cycle (passing : Bool) : (s.withRoles passing).cycle = s.cycle := rfl
@[simp] theorem State.withRoles_hearth (passing : Bool) : (s.withRoles passing).hearth = s.hearth := rfl
@[simp] theorem State.withRoles_pace (passing : Bool) : (s.withRoles passing).pace = s.pace := rfl
@[simp] theorem State.withRoles_port (passing : Bool) : (s.withRoles passing).port = s.port := rfl
@[simp] theorem State.withRoles_freeIx (passing : Bool) : (s.withRoles passing).freeIx = s.freeIx := rfl
@[simp] theorem State.withRoles_pending (passing : Bool) : (s.withRoles passing).pending = s.pending := rfl

/-! A change of the cycle changes nothing else. -/

@[simp] theorem State.setCycle_clk (c : Cycle) : (s.setCycle c).clk = s.clk := rfl
@[simp] theorem State.setCycle_resetLow (c : Cycle) : (s.setCycle c).resetLow = s.resetLow := rfl
@[simp] theorem State.setCycle_pins (c : Cycle) : (s.setCycle c).pins = s.pins := rfl
@[simp] theorem State.setCycle_phase (c : Cycle) : (s.setCycle c).phase = s.phase := rfl
@[simp] theorem State.setCycle_lastReset (c : Cycle) : (s.setCycle c).lastReset = s.lastReset := rfl
@[simp] theorem State.setCycle_params (c : Cycle) : (s.setCycle c).params = s.params := rfl
@[simp] theorem State.setCycle_store (c : Cycle) : (s.setCycle c).store = s.store := rfl
@[simp] theorem State.setCycle_zones (c : Cycle) : (s.setCycle c).zones = s.zones := rfl
@[simp] theorem State.setCycle_creep (c : Cycle) : (s.setCycle c).creep = s.creep := rfl
@[simp] theorem State.setCycle_line (c : Cycle) : (s.setCycle c).line = s.line := rfl
@[simp] theorem State.setCycle_out (c : Cycle) : (s.setCycle c).out = s.out := rfl
@[simp] theorem State.setCycle_inc (c : Cycle) : (s.setCycle c).inc = s.inc := rfl
@[simp] theorem State.setCycle_halt (c : Cycle) : (s.setCycle c).halt = s.halt := rfl
@[simp] theorem State.setCycle_lists (c : Cycle) : (s.setCycle c).lists = s.lists := rfl
@[simp] theorem State.setCycle_door (c : Cycle) : (s.setCycle c).door = s.door := rfl
@[simp] theorem State.setCycle_hearth (c : Cycle) : (s.setCycle c).hearth = s.hearth := rfl
@[simp] theorem State.setCycle_pace (c : Cycle) : (s.setCycle c).pace = s.pace := rfl
@[simp] theorem State.setCycle_port (c : Cycle) : (s.setCycle c).port = s.port := rfl
@[simp] theorem State.setCycle_freeIx (c : Cycle) : (s.setCycle c).freeIx = s.freeIx := rfl
@[simp] theorem State.setCycle_pending (c : Cycle) : (s.setCycle c).pending = s.pending := rfl

/-! A change of the substate changes the door zone context alone. -/

@[simp] theorem State.setSubstate_clk (x : Substate) : (s.setSubstate x).clk = s.clk := rfl
@[simp] theorem State.setSubstate_resetLow (x : Substate) : (s.setSubstate x).resetLow = s.resetLow := rfl
@[simp] theorem State.setSubstate_pins (x : Substate) : (s.setSubstate x).pins = s.pins := rfl
@[simp] theorem State.setSubstate_phase (x : Substate) : (s.setSubstate x).phase = s.phase := rfl
@[simp] theorem State.setSubstate_lastReset (x : Substate) : (s.setSubstate x).lastReset = s.lastReset := rfl
@[simp] theorem State.setSubstate_params (x : Substate) : (s.setSubstate x).params = s.params := rfl
@[simp] theorem State.setSubstate_store (x : Substate) : (s.setSubstate x).store = s.store := rfl
@[simp] theorem State.setSubstate_zones (x : Substate) : (s.setSubstate x).zones = s.zones := rfl
@[simp] theorem State.setSubstate_creep (x : Substate) : (s.setSubstate x).creep = s.creep := rfl
@[simp] theorem State.setSubstate_line (x : Substate) : (s.setSubstate x).line = s.line := rfl
@[simp] theorem State.setSubstate_out (x : Substate) : (s.setSubstate x).out = s.out := rfl
@[simp] theorem State.setSubstate_inc (x : Substate) : (s.setSubstate x).inc = s.inc := rfl
@[simp] theorem State.setSubstate_halt (x : Substate) : (s.setSubstate x).halt = s.halt := rfl
@[simp] theorem State.setSubstate_lists (x : Substate) : (s.setSubstate x).lists = s.lists := rfl
@[simp] theorem State.setSubstate_cycle (x : Substate) : (s.setSubstate x).cycle = s.cycle := rfl
@[simp] theorem State.setSubstate_hearth (x : Substate) : (s.setSubstate x).hearth = s.hearth := rfl
@[simp] theorem State.setSubstate_pace (x : Substate) : (s.setSubstate x).pace = s.pace := rfl
@[simp] theorem State.setSubstate_port (x : Substate) : (s.setSubstate x).port = s.port := rfl
@[simp] theorem State.setSubstate_freeIx (x : Substate) : (s.setSubstate x).freeIx = s.freeIx := rfl
@[simp] theorem State.setSubstate_pending (x : Substate) : (s.setSubstate x).pending = s.pending := rfl

/-! An aborted opening changes the cycle and the substate (R143). -/

@[simp] theorem State.abortOpening_clk : (s.abortOpening).clk = s.clk := rfl
@[simp] theorem State.abortOpening_resetLow : (s.abortOpening).resetLow = s.resetLow := rfl
@[simp] theorem State.abortOpening_pins : (s.abortOpening).pins = s.pins := rfl
@[simp] theorem State.abortOpening_phase : (s.abortOpening).phase = s.phase := rfl
@[simp] theorem State.abortOpening_lastReset : (s.abortOpening).lastReset = s.lastReset := rfl
@[simp] theorem State.abortOpening_params : (s.abortOpening).params = s.params := rfl
@[simp] theorem State.abortOpening_store : (s.abortOpening).store = s.store := rfl
@[simp] theorem State.abortOpening_zones : (s.abortOpening).zones = s.zones := rfl
@[simp] theorem State.abortOpening_creep : (s.abortOpening).creep = s.creep := rfl
@[simp] theorem State.abortOpening_line : (s.abortOpening).line = s.line := rfl
@[simp] theorem State.abortOpening_out : (s.abortOpening).out = s.out := rfl
@[simp] theorem State.abortOpening_inc : (s.abortOpening).inc = s.inc := rfl
@[simp] theorem State.abortOpening_halt : (s.abortOpening).halt = s.halt := rfl
@[simp] theorem State.abortOpening_lists : (s.abortOpening).lists = s.lists := rfl
@[simp] theorem State.abortOpening_hearth : (s.abortOpening).hearth = s.hearth := rfl
@[simp] theorem State.abortOpening_pace : (s.abortOpening).pace = s.pace := rfl
@[simp] theorem State.abortOpening_port : (s.abortOpening).port = s.port := rfl
@[simp] theorem State.abortOpening_freeIx : (s.abortOpening).freeIx = s.freeIx := rfl
@[simp] theorem State.abortOpening_pending : (s.abortOpening).pending = s.pending := rfl

/-! Opening the door changes the cycle alone. -/

@[simp] theorem State.openDoor_clk : (s.openDoor).clk = s.clk := rfl
@[simp] theorem State.openDoor_resetLow : (s.openDoor).resetLow = s.resetLow := rfl
@[simp] theorem State.openDoor_pins : (s.openDoor).pins = s.pins := rfl
@[simp] theorem State.openDoor_phase : (s.openDoor).phase = s.phase := rfl
@[simp] theorem State.openDoor_lastReset : (s.openDoor).lastReset = s.lastReset := rfl
@[simp] theorem State.openDoor_params : (s.openDoor).params = s.params := rfl
@[simp] theorem State.openDoor_store : (s.openDoor).store = s.store := rfl
@[simp] theorem State.openDoor_zones : (s.openDoor).zones = s.zones := rfl
@[simp] theorem State.openDoor_creep : (s.openDoor).creep = s.creep := rfl
@[simp] theorem State.openDoor_line : (s.openDoor).line = s.line := rfl
@[simp] theorem State.openDoor_out : (s.openDoor).out = s.out := rfl
@[simp] theorem State.openDoor_inc : (s.openDoor).inc = s.inc := rfl
@[simp] theorem State.openDoor_halt : (s.openDoor).halt = s.halt := rfl
@[simp] theorem State.openDoor_lists : (s.openDoor).lists = s.lists := rfl
@[simp] theorem State.openDoor_door : (s.openDoor).door = s.door := rfl
@[simp] theorem State.openDoor_hearth : (s.openDoor).hearth = s.hearth := rfl
@[simp] theorem State.openDoor_pace : (s.openDoor).pace = s.pace := rfl
@[simp] theorem State.openDoor_port : (s.openDoor).port = s.port := rfl
@[simp] theorem State.openDoor_freeIx : (s.openDoor).freeIx = s.freeIx := rfl
@[simp] theorem State.openDoor_pending : (s.openDoor).pending = s.pending := rfl

/-! Isolation changes the Line Interface and ends a creep period (R54). -/

@[simp] theorem State.isolate_clk (cause : Isolation) : (s.isolate cause).clk = s.clk := rfl
@[simp] theorem State.isolate_resetLow (cause : Isolation) : (s.isolate cause).resetLow = s.resetLow := rfl
@[simp] theorem State.isolate_pins (cause : Isolation) : (s.isolate cause).pins = s.pins := rfl
@[simp] theorem State.isolate_phase (cause : Isolation) : (s.isolate cause).phase = s.phase := rfl
@[simp] theorem State.isolate_lastReset (cause : Isolation) : (s.isolate cause).lastReset = s.lastReset := rfl
@[simp] theorem State.isolate_params (cause : Isolation) : (s.isolate cause).params = s.params := rfl
@[simp] theorem State.isolate_store (cause : Isolation) : (s.isolate cause).store = s.store := rfl
@[simp] theorem State.isolate_zones (cause : Isolation) : (s.isolate cause).zones = s.zones := rfl
@[simp] theorem State.isolate_out (cause : Isolation) : (s.isolate cause).out = s.out := rfl
@[simp] theorem State.isolate_inc (cause : Isolation) : (s.isolate cause).inc = s.inc := rfl
@[simp] theorem State.isolate_halt (cause : Isolation) : (s.isolate cause).halt = s.halt := rfl
@[simp] theorem State.isolate_lists (cause : Isolation) : (s.isolate cause).lists = s.lists := rfl
@[simp] theorem State.isolate_door (cause : Isolation) : (s.isolate cause).door = s.door := rfl
@[simp] theorem State.isolate_cycle (cause : Isolation) : (s.isolate cause).cycle = s.cycle := rfl
@[simp] theorem State.isolate_hearth (cause : Isolation) : (s.isolate cause).hearth = s.hearth := rfl
@[simp] theorem State.isolate_pace (cause : Isolation) : (s.isolate cause).pace = s.pace := rfl
@[simp] theorem State.isolate_port (cause : Isolation) : (s.isolate cause).port = s.port := rfl
@[simp] theorem State.isolate_freeIx (cause : Isolation) : (s.isolate cause).freeIx = s.freeIx := rfl
@[simp] theorem State.isolate_pending (cause : Isolation) : (s.isolate cause).pending = s.pending := rfl

/-! A change of a peer entry changes the Line Interface alone. -/

@[simp] theorem State.modPeer_clk (n : Nat) (f : Peer → Peer) : (s.modPeer n f).clk = s.clk := rfl
@[simp] theorem State.modPeer_resetLow (n : Nat) (f : Peer → Peer) : (s.modPeer n f).resetLow = s.resetLow := rfl
@[simp] theorem State.modPeer_pins (n : Nat) (f : Peer → Peer) : (s.modPeer n f).pins = s.pins := rfl
@[simp] theorem State.modPeer_phase (n : Nat) (f : Peer → Peer) : (s.modPeer n f).phase = s.phase := rfl
@[simp] theorem State.modPeer_lastReset (n : Nat) (f : Peer → Peer) : (s.modPeer n f).lastReset = s.lastReset := rfl
@[simp] theorem State.modPeer_params (n : Nat) (f : Peer → Peer) : (s.modPeer n f).params = s.params := rfl
@[simp] theorem State.modPeer_store (n : Nat) (f : Peer → Peer) : (s.modPeer n f).store = s.store := rfl
@[simp] theorem State.modPeer_zones (n : Nat) (f : Peer → Peer) : (s.modPeer n f).zones = s.zones := rfl
@[simp] theorem State.modPeer_creep (n : Nat) (f : Peer → Peer) : (s.modPeer n f).creep = s.creep := rfl
@[simp] theorem State.modPeer_out (n : Nat) (f : Peer → Peer) : (s.modPeer n f).out = s.out := rfl
@[simp] theorem State.modPeer_inc (n : Nat) (f : Peer → Peer) : (s.modPeer n f).inc = s.inc := rfl
@[simp] theorem State.modPeer_halt (n : Nat) (f : Peer → Peer) : (s.modPeer n f).halt = s.halt := rfl
@[simp] theorem State.modPeer_lists (n : Nat) (f : Peer → Peer) : (s.modPeer n f).lists = s.lists := rfl
@[simp] theorem State.modPeer_door (n : Nat) (f : Peer → Peer) : (s.modPeer n f).door = s.door := rfl
@[simp] theorem State.modPeer_cycle (n : Nat) (f : Peer → Peer) : (s.modPeer n f).cycle = s.cycle := rfl
@[simp] theorem State.modPeer_hearth (n : Nat) (f : Peer → Peer) : (s.modPeer n f).hearth = s.hearth := rfl
@[simp] theorem State.modPeer_pace (n : Nat) (f : Peer → Peer) : (s.modPeer n f).pace = s.pace := rfl
@[simp] theorem State.modPeer_port (n : Nat) (f : Peer → Peer) : (s.modPeer n f).port = s.port := rfl
@[simp] theorem State.modPeer_freeIx (n : Nat) (f : Peer → Peer) : (s.modPeer n f).freeIx = s.freeIx := rfl
@[simp] theorem State.modPeer_pending (n : Nat) (f : Peer → Peer) : (s.modPeer n f).pending = s.pending := rfl

/-! The line pace changes the Pace Calculator alone (R172). -/

@[simp] theorem State.setLinePace_clk : (s.setLinePace).clk = s.clk := rfl
@[simp] theorem State.setLinePace_resetLow : (s.setLinePace).resetLow = s.resetLow := rfl
@[simp] theorem State.setLinePace_pins : (s.setLinePace).pins = s.pins := rfl
@[simp] theorem State.setLinePace_phase : (s.setLinePace).phase = s.phase := rfl
@[simp] theorem State.setLinePace_lastReset : (s.setLinePace).lastReset = s.lastReset := rfl
@[simp] theorem State.setLinePace_params : (s.setLinePace).params = s.params := rfl
@[simp] theorem State.setLinePace_store : (s.setLinePace).store = s.store := rfl
@[simp] theorem State.setLinePace_zones : (s.setLinePace).zones = s.zones := rfl
@[simp] theorem State.setLinePace_creep : (s.setLinePace).creep = s.creep := rfl
@[simp] theorem State.setLinePace_line : (s.setLinePace).line = s.line := rfl
@[simp] theorem State.setLinePace_out : (s.setLinePace).out = s.out := rfl
@[simp] theorem State.setLinePace_inc : (s.setLinePace).inc = s.inc := rfl
@[simp] theorem State.setLinePace_halt : (s.setLinePace).halt = s.halt := rfl
@[simp] theorem State.setLinePace_lists : (s.setLinePace).lists = s.lists := rfl
@[simp] theorem State.setLinePace_door : (s.setLinePace).door = s.door := rfl
@[simp] theorem State.setLinePace_cycle : (s.setLinePace).cycle = s.cycle := rfl
@[simp] theorem State.setLinePace_hearth : (s.setLinePace).hearth = s.hearth := rfl
@[simp] theorem State.setLinePace_port : (s.setLinePace).port = s.port := rfl
@[simp] theorem State.setLinePace_freeIx : (s.setLinePace).freeIx = s.freeIx := rfl
@[simp] theorem State.setLinePace_pending : (s.setLinePace).pending = s.pending := rfl

/-! A struck hearth update changes the hearth record alone (R159). -/

@[simp] theorem State.hearthStruck_clk : (s.hearthStruck).clk = s.clk := rfl
@[simp] theorem State.hearthStruck_resetLow : (s.hearthStruck).resetLow = s.resetLow := rfl
@[simp] theorem State.hearthStruck_pins : (s.hearthStruck).pins = s.pins := rfl
@[simp] theorem State.hearthStruck_phase : (s.hearthStruck).phase = s.phase := rfl
@[simp] theorem State.hearthStruck_lastReset : (s.hearthStruck).lastReset = s.lastReset := rfl
@[simp] theorem State.hearthStruck_params : (s.hearthStruck).params = s.params := rfl
@[simp] theorem State.hearthStruck_store : (s.hearthStruck).store = s.store := rfl
@[simp] theorem State.hearthStruck_zones : (s.hearthStruck).zones = s.zones := rfl
@[simp] theorem State.hearthStruck_creep : (s.hearthStruck).creep = s.creep := rfl
@[simp] theorem State.hearthStruck_line : (s.hearthStruck).line = s.line := rfl
@[simp] theorem State.hearthStruck_out : (s.hearthStruck).out = s.out := rfl
@[simp] theorem State.hearthStruck_inc : (s.hearthStruck).inc = s.inc := rfl
@[simp] theorem State.hearthStruck_halt : (s.hearthStruck).halt = s.halt := rfl
@[simp] theorem State.hearthStruck_lists : (s.hearthStruck).lists = s.lists := rfl
@[simp] theorem State.hearthStruck_door : (s.hearthStruck).door = s.door := rfl
@[simp] theorem State.hearthStruck_cycle : (s.hearthStruck).cycle = s.cycle := rfl
@[simp] theorem State.hearthStruck_pace : (s.hearthStruck).pace = s.pace := rfl
@[simp] theorem State.hearthStruck_port : (s.hearthStruck).port = s.port := rfl
@[simp] theorem State.hearthStruck_freeIx : (s.hearthStruck).freeIx = s.freeIx := rfl
@[simp] theorem State.hearthStruck_pending : (s.hearthStruck).pending = s.pending := rfl

/-! A struck bank update changes the lists alone (R113). -/

@[simp] theorem State.listStruck_clk : (s.listStruck).clk = s.clk := rfl
@[simp] theorem State.listStruck_resetLow : (s.listStruck).resetLow = s.resetLow := rfl
@[simp] theorem State.listStruck_pins : (s.listStruck).pins = s.pins := rfl
@[simp] theorem State.listStruck_phase : (s.listStruck).phase = s.phase := rfl
@[simp] theorem State.listStruck_lastReset : (s.listStruck).lastReset = s.lastReset := rfl
@[simp] theorem State.listStruck_params : (s.listStruck).params = s.params := rfl
@[simp] theorem State.listStruck_store : (s.listStruck).store = s.store := rfl
@[simp] theorem State.listStruck_zones : (s.listStruck).zones = s.zones := rfl
@[simp] theorem State.listStruck_creep : (s.listStruck).creep = s.creep := rfl
@[simp] theorem State.listStruck_line : (s.listStruck).line = s.line := rfl
@[simp] theorem State.listStruck_out : (s.listStruck).out = s.out := rfl
@[simp] theorem State.listStruck_inc : (s.listStruck).inc = s.inc := rfl
@[simp] theorem State.listStruck_halt : (s.listStruck).halt = s.halt := rfl
@[simp] theorem State.listStruck_door : (s.listStruck).door = s.door := rfl
@[simp] theorem State.listStruck_cycle : (s.listStruck).cycle = s.cycle := rfl
@[simp] theorem State.listStruck_hearth : (s.listStruck).hearth = s.hearth := rfl
@[simp] theorem State.listStruck_pace : (s.listStruck).pace = s.pace := rfl
@[simp] theorem State.listStruck_port : (s.listStruck).port = s.port := rfl
@[simp] theorem State.listStruck_freeIx : (s.listStruck).freeIx = s.freeIx := rfl
@[simp] theorem State.listStruck_pending : (s.listStruck).pending = s.pending := rfl

/-! A struck step leaves the reset the blocks' retained parts alone (R180). -/

@[simp] theorem State.keeping_clk (t : State) : (s.keeping t).clk = s.clk := rfl
@[simp] theorem State.keeping_resetLow (t : State) : (s.keeping t).resetLow = s.resetLow := rfl
@[simp] theorem State.keeping_pins (t : State) : (s.keeping t).pins = s.pins := rfl
@[simp] theorem State.keeping_phase (t : State) : (s.keeping t).phase = s.phase := rfl
@[simp] theorem State.keeping_lastReset (t : State) : (s.keeping t).lastReset = s.lastReset := rfl
@[simp] theorem State.keeping_params (t : State) : (s.keeping t).params = s.params := rfl
@[simp] theorem State.keeping_creep (t : State) : (s.keeping t).creep = s.creep := rfl
@[simp] theorem State.keeping_line (t : State) : (s.keeping t).line = s.line := rfl
@[simp] theorem State.keeping_out (t : State) : (s.keeping t).out = s.out := rfl
@[simp] theorem State.keeping_inc (t : State) : (s.keeping t).inc = s.inc := rfl
@[simp] theorem State.keeping_halt (t : State) : (s.keeping t).halt = s.halt := rfl
@[simp] theorem State.keeping_port (t : State) : (s.keeping t).port = s.port := rfl
@[simp] theorem State.keeping_pending (t : State) : (s.keeping t).pending = s.pending := rfl

/-! Taking a free value changes its index alone. -/

@[simp] theorem State.nextFree_clk : (s.nextFree).clk = s.clk := rfl
@[simp] theorem State.nextFree_resetLow : (s.nextFree).resetLow = s.resetLow := rfl
@[simp] theorem State.nextFree_pins : (s.nextFree).pins = s.pins := rfl
@[simp] theorem State.nextFree_phase : (s.nextFree).phase = s.phase := rfl
@[simp] theorem State.nextFree_lastReset : (s.nextFree).lastReset = s.lastReset := rfl
@[simp] theorem State.nextFree_params : (s.nextFree).params = s.params := rfl
@[simp] theorem State.nextFree_store : (s.nextFree).store = s.store := rfl
@[simp] theorem State.nextFree_zones : (s.nextFree).zones = s.zones := rfl
@[simp] theorem State.nextFree_creep : (s.nextFree).creep = s.creep := rfl
@[simp] theorem State.nextFree_line : (s.nextFree).line = s.line := rfl
@[simp] theorem State.nextFree_out : (s.nextFree).out = s.out := rfl
@[simp] theorem State.nextFree_inc : (s.nextFree).inc = s.inc := rfl
@[simp] theorem State.nextFree_halt : (s.nextFree).halt = s.halt := rfl
@[simp] theorem State.nextFree_lists : (s.nextFree).lists = s.lists := rfl
@[simp] theorem State.nextFree_door : (s.nextFree).door = s.door := rfl
@[simp] theorem State.nextFree_cycle : (s.nextFree).cycle = s.cycle := rfl
@[simp] theorem State.nextFree_hearth : (s.nextFree).hearth = s.hearth := rfl
@[simp] theorem State.nextFree_pace : (s.nextFree).pace = s.pace := rfl
@[simp] theorem State.nextFree_port : (s.nextFree).port = s.port := rfl
@[simp] theorem State.nextFree_pending : (s.nextFree).pending = s.pending := rfl

/-! Enabling the inputs changes the stamps and the encoders' counts (R179). -/

@[simp] theorem State.enableInputs_clk : (s.enableInputs).clk = s.clk := rfl
@[simp] theorem State.enableInputs_resetLow : (s.enableInputs).resetLow = s.resetLow := rfl
@[simp] theorem State.enableInputs_phase : (s.enableInputs).phase = s.phase := rfl
@[simp] theorem State.enableInputs_lastReset : (s.enableInputs).lastReset = s.lastReset := rfl
@[simp] theorem State.enableInputs_params : (s.enableInputs).params = s.params := rfl
@[simp] theorem State.enableInputs_store : (s.enableInputs).store = s.store := rfl
@[simp] theorem State.enableInputs_zones : (s.enableInputs).zones = s.zones := rfl
@[simp] theorem State.enableInputs_creep : (s.enableInputs).creep = s.creep := rfl
@[simp] theorem State.enableInputs_line : (s.enableInputs).line = s.line := rfl
@[simp] theorem State.enableInputs_out : (s.enableInputs).out = s.out := rfl
@[simp] theorem State.enableInputs_inc : (s.enableInputs).inc = s.inc := rfl
@[simp] theorem State.enableInputs_halt : (s.enableInputs).halt = s.halt := rfl
@[simp] theorem State.enableInputs_lists : (s.enableInputs).lists = s.lists := rfl
@[simp] theorem State.enableInputs_cycle : (s.enableInputs).cycle = s.cycle := rfl
@[simp] theorem State.enableInputs_hearth : (s.enableInputs).hearth = s.hearth := rfl
@[simp] theorem State.enableInputs_pace : (s.enableInputs).pace = s.pace := rfl
@[simp] theorem State.enableInputs_port : (s.enableInputs).port = s.port := rfl
@[simp] theorem State.enableInputs_freeIx : (s.enableInputs).freeIx = s.freeIx := rfl
@[simp] theorem State.enableInputs_pending : (s.enableInputs).pending = s.pending := rfl

/-! Latching the zones changes the zone map alone (R17). -/

@[simp] theorem State.latchZones_clk : (s.latchZones).clk = s.clk := rfl
@[simp] theorem State.latchZones_resetLow : (s.latchZones).resetLow = s.resetLow := rfl
@[simp] theorem State.latchZones_pins : (s.latchZones).pins = s.pins := rfl
@[simp] theorem State.latchZones_phase : (s.latchZones).phase = s.phase := rfl
@[simp] theorem State.latchZones_lastReset : (s.latchZones).lastReset = s.lastReset := rfl
@[simp] theorem State.latchZones_params : (s.latchZones).params = s.params := rfl
@[simp] theorem State.latchZones_store : (s.latchZones).store = s.store := rfl
@[simp] theorem State.latchZones_creep : (s.latchZones).creep = s.creep := rfl
@[simp] theorem State.latchZones_line : (s.latchZones).line = s.line := rfl
@[simp] theorem State.latchZones_out : (s.latchZones).out = s.out := rfl
@[simp] theorem State.latchZones_inc : (s.latchZones).inc = s.inc := rfl
@[simp] theorem State.latchZones_halt : (s.latchZones).halt = s.halt := rfl
@[simp] theorem State.latchZones_lists : (s.latchZones).lists = s.lists := rfl
@[simp] theorem State.latchZones_door : (s.latchZones).door = s.door := rfl
@[simp] theorem State.latchZones_cycle : (s.latchZones).cycle = s.cycle := rfl
@[simp] theorem State.latchZones_hearth : (s.latchZones).hearth = s.hearth := rfl
@[simp] theorem State.latchZones_pace : (s.latchZones).pace = s.pace := rfl
@[simp] theorem State.latchZones_port : (s.latchZones).port = s.port := rfl
@[simp] theorem State.latchZones_freeIx : (s.latchZones).freeIx = s.freeIx := rfl
@[simp] theorem State.latchZones_pending : (s.latchZones).pending = s.pending := rfl

/-! Recomputing base classes changes the pool alone (R10). -/

@[simp] theorem State.rebase_clk : (s.rebase).clk = s.clk := rfl
@[simp] theorem State.rebase_resetLow : (s.rebase).resetLow = s.resetLow := rfl
@[simp] theorem State.rebase_pins : (s.rebase).pins = s.pins := rfl
@[simp] theorem State.rebase_phase : (s.rebase).phase = s.phase := rfl
@[simp] theorem State.rebase_lastReset : (s.rebase).lastReset = s.lastReset := rfl
@[simp] theorem State.rebase_params : (s.rebase).params = s.params := rfl
@[simp] theorem State.rebase_zones : (s.rebase).zones = s.zones := rfl
@[simp] theorem State.rebase_creep : (s.rebase).creep = s.creep := rfl
@[simp] theorem State.rebase_line : (s.rebase).line = s.line := rfl
@[simp] theorem State.rebase_out : (s.rebase).out = s.out := rfl
@[simp] theorem State.rebase_inc : (s.rebase).inc = s.inc := rfl
@[simp] theorem State.rebase_halt : (s.rebase).halt = s.halt := rfl
@[simp] theorem State.rebase_lists : (s.rebase).lists = s.lists := rfl
@[simp] theorem State.rebase_door : (s.rebase).door = s.door := rfl
@[simp] theorem State.rebase_cycle : (s.rebase).cycle = s.cycle := rfl
@[simp] theorem State.rebase_hearth : (s.rebase).hearth = s.hearth := rfl
@[simp] theorem State.rebase_pace : (s.rebase).pace = s.pace := rfl
@[simp] theorem State.rebase_port : (s.rebase).port = s.port := rfl
@[simp] theorem State.rebase_freeIx : (s.rebase).freeIx = s.freeIx := rfl
@[simp] theorem State.rebase_pending : (s.rebase).pending = s.pending := rfl

/-! A pulse changes the door zone context alone (R117). -/

@[simp] theorem State.countPulse_clk (g : Group) (dir : Direction) : (s.countPulse g dir).clk = s.clk := rfl
@[simp] theorem State.countPulse_resetLow (g : Group) (dir : Direction) : (s.countPulse g dir).resetLow = s.resetLow := rfl
@[simp] theorem State.countPulse_pins (g : Group) (dir : Direction) : (s.countPulse g dir).pins = s.pins := rfl
@[simp] theorem State.countPulse_phase (g : Group) (dir : Direction) : (s.countPulse g dir).phase = s.phase := rfl
@[simp] theorem State.countPulse_lastReset (g : Group) (dir : Direction) : (s.countPulse g dir).lastReset = s.lastReset := rfl
@[simp] theorem State.countPulse_params (g : Group) (dir : Direction) : (s.countPulse g dir).params = s.params := rfl
@[simp] theorem State.countPulse_store (g : Group) (dir : Direction) : (s.countPulse g dir).store = s.store := rfl
@[simp] theorem State.countPulse_zones (g : Group) (dir : Direction) : (s.countPulse g dir).zones = s.zones := rfl
@[simp] theorem State.countPulse_creep (g : Group) (dir : Direction) : (s.countPulse g dir).creep = s.creep := rfl
@[simp] theorem State.countPulse_line (g : Group) (dir : Direction) : (s.countPulse g dir).line = s.line := rfl
@[simp] theorem State.countPulse_out (g : Group) (dir : Direction) : (s.countPulse g dir).out = s.out := rfl
@[simp] theorem State.countPulse_inc (g : Group) (dir : Direction) : (s.countPulse g dir).inc = s.inc := rfl
@[simp] theorem State.countPulse_halt (g : Group) (dir : Direction) : (s.countPulse g dir).halt = s.halt := rfl
@[simp] theorem State.countPulse_lists (g : Group) (dir : Direction) : (s.countPulse g dir).lists = s.lists := rfl
@[simp] theorem State.countPulse_cycle (g : Group) (dir : Direction) : (s.countPulse g dir).cycle = s.cycle := rfl
@[simp] theorem State.countPulse_hearth (g : Group) (dir : Direction) : (s.countPulse g dir).hearth = s.hearth := rfl
@[simp] theorem State.countPulse_pace (g : Group) (dir : Direction) : (s.countPulse g dir).pace = s.pace := rfl
@[simp] theorem State.countPulse_port (g : Group) (dir : Direction) : (s.countPulse g dir).port = s.port := rfl
@[simp] theorem State.countPulse_freeIx (g : Group) (dir : Direction) : (s.countPulse g dir).freeIx = s.freeIx := rfl
@[simp] theorem State.countPulse_pending (g : Group) (dir : Direction) : (s.countPulse g dir).pending = s.pending := rfl

/-! Following the groups' commands changes the stall timers alone (R119). -/

@[simp] theorem State.syncStall_clk : (s.syncStall).clk = s.clk := rfl
@[simp] theorem State.syncStall_resetLow : (s.syncStall).resetLow = s.resetLow := rfl
@[simp] theorem State.syncStall_pins : (s.syncStall).pins = s.pins := rfl
@[simp] theorem State.syncStall_phase : (s.syncStall).phase = s.phase := rfl
@[simp] theorem State.syncStall_lastReset : (s.syncStall).lastReset = s.lastReset := rfl
@[simp] theorem State.syncStall_params : (s.syncStall).params = s.params := rfl
@[simp] theorem State.syncStall_store : (s.syncStall).store = s.store := rfl
@[simp] theorem State.syncStall_zones : (s.syncStall).zones = s.zones := rfl
@[simp] theorem State.syncStall_creep : (s.syncStall).creep = s.creep := rfl
@[simp] theorem State.syncStall_line : (s.syncStall).line = s.line := rfl
@[simp] theorem State.syncStall_out : (s.syncStall).out = s.out := rfl
@[simp] theorem State.syncStall_inc : (s.syncStall).inc = s.inc := rfl
@[simp] theorem State.syncStall_halt : (s.syncStall).halt = s.halt := rfl
@[simp] theorem State.syncStall_lists : (s.syncStall).lists = s.lists := rfl
@[simp] theorem State.syncStall_cycle : (s.syncStall).cycle = s.cycle := rfl
@[simp] theorem State.syncStall_hearth : (s.syncStall).hearth = s.hearth := rfl
@[simp] theorem State.syncStall_pace : (s.syncStall).pace = s.pace := rfl
@[simp] theorem State.syncStall_port : (s.syncStall).port = s.port := rfl
@[simp] theorem State.syncStall_freeIx : (s.syncStall).freeIx = s.freeIx := rfl
@[simp] theorem State.syncStall_pending : (s.syncStall).pending = s.pending := rfl

/-! ## The changed fields -/

@[simp] theorem State.modPort_port (f : ControlPort → ControlPort) : (s.modPort f).port = f s.port := rfl
@[simp] theorem State.setCycle_cycle (c : Cycle) : (s.setCycle c).cycle = c := rfl
@[simp] theorem State.setSubstate_door (x : Substate) :
    (s.setSubstate x).door = { s.door with substate := x } := rfl
@[simp] theorem State.setZone_zones (k : Nat) (z : Zone) : (s.setZone k z).zones = s.zones.set k z := rfl
@[simp] theorem State.modZone_zones (k : Nat) (f : Zone → Zone) :
    (s.modZone k f).zones = s.zones.set k (f (s.zone k)) := rfl
@[simp] theorem State.addRecord_pool (r : Record) : (s.addRecord r).store.pool = s.store.pool ++ [r] := rfl
@[simp] theorem State.modRecord_store (id : Nat) (f : Record → Record) :
    (s.modRecord id f).store = s.store.modify id f := rfl
@[simp] theorem State.delRecord_pool (id : Nat) :
    (s.delRecord id).store.pool = s.store.pool.filter fun r => r.id != id := rfl
@[simp] theorem State.modPeer_peers (n : Nat) (f : Peer → Peer) :
    (s.modPeer n f).line.peers = s.line.peers.map fun p => if p.station = n then f p else p := rfl
@[simp] theorem State.answer_state (r : Response) :
    (s.answer r).port.state = .answered { r with overrun := match s.port.state with
      | .inWork o => o
      | _ => false } := rfl

end Sys2Proof.Machine
end

