-- ==== Sys2Proof/Laws/Ops.lean ====
section
/-! SUPPORT. For each shared operation, which fields of the state it can change: everything else stands. -/

namespace Sys2Proof.Machine

/-- A property that is reflexive, transitive and kept by one step of a fold is kept by the fold. -/
theorem foldl_shape {α : Type} (P : State → State → Prop) (refl : ∀ a, P a a)
    (trans : ∀ a b c, P a b → P b c → P a c) (f : State → α → State) (step : ∀ a x, P a (f a x)) :
    ∀ (xs : List α) (a : State), P a (xs.foldl f a)
  | [], a => refl a
  | x :: xs, a => trans a (f a x) _ (step a x) (foldl_shape P refl trans f step xs (f a x))

/-- A watch hit is a report or nothing (R14). -/
theorem State.watchHit_shape (s : State) (id : Nat) (zone : Option Nat) (point : Nat) :
    ∃ p, s.watchHit id zone point = { s with port := p } := by
  unfold State.watchHit
  repeat' (first | split | (dsimp only; split))
  all_goals exact ⟨_, rfl⟩

/-- The incoming crossing ends with its record, or there was none (R79, R81, R82). -/
theorem State.dropIncoming_shape (s : State) :
    ∃ st zs ic d, s.dropIncoming = { s with store := st, zones := zs, inc := ic, door := d } := by
  unfold State.dropIncoming
  repeat' (first | split | (dsimp only; split))
  all_goals exact ⟨_, _, _, _, rfl⟩

/-- A frame fills its slot or is discarded (R51). -/
theorem State.place_shape (s : State) (k : SlotKind) (b : FrameBody) :
    ∃ l, s.place k b = { s with line := l } := by
  unfold State.place
  repeat' (first | split | (dsimp only; split))
  all_goals exact ⟨_, rfl⟩

/-- A change of a declared field marks the DECLARE slot, or waits (R52). -/
theorem State.syncDeclare_shape (s : State) :
    ∃ l, s.syncDeclare = { s with line := l } := by
  unfold State.syncDeclare
  repeat' (first | split | (dsimp only; split))
  all_goals exact ⟨_, rfl⟩

/-- An attempt takes a frame from its slot (R51). -/
theorem State.beginAttempt_shape (s : State) :
    ∃ l, s.beginAttempt = { s with line := l } := by
  unfold State.beginAttempt
  repeat' (first | split | (dsimp only; split))
  all_goals exact ⟨_, rfl⟩

/-- A qualification window opens (R55). -/
theorem State.openWindow_shape (s : State) :
    ∃ l, s.openWindow = { s with line := l } := by
  unfold State.openWindow
  repeat' (first | split | (dsimp only; split))
  all_goals exact ⟨_, rfl⟩

/-- The silence timer restarts (R59). -/
theorem State.restartSilence_shape (s : State) :
    ∃ l, s.restartSilence = { s with line := l } := by
  unfold State.restartSilence
  repeat' (first | split | (dsimp only; split))
  all_goals exact ⟨_, rfl⟩

/-- The station leaves LISTENING with LINE_READY, or stays (R57). -/
theorem State.leaveListening_shape (s : State) :
    ∃ l p, s.leaveListening = { s with line := l, port := p } := by
  unfold State.leaveListening
  split
  · obtain ⟨l, h⟩ := State.restartSilence_shape
      { s with line := { s.line with mode := if s.halt.holders = [] then .run else .halted } }
    rw [h]
    exact ⟨_, _, rfl⟩
  · exact ⟨_, _, rfl⟩

/-- The mode follows the halt set (R93). -/
theorem State.followHalt_shape (s : State) :
    ∃ l c, s.followHalt = { s with line := l, creep := c } := by
  unfold State.followHalt
  repeat' (first | split | (dsimp only; split))
  all_goals exact ⟨_, _, rfl⟩

/-- A new halt set, with the mode following it (R93). -/
theorem State.withHolders_shape (s : State) (hs : List Nat) :
    ∃ h l c, s.withHolders hs = { s with halt := h, line := l, creep := c } := by
  obtain ⟨l, c, h⟩ := State.followHalt_shape { s with halt := { s.halt with holders := hs } }
  exact ⟨_, _, _, h⟩

/-- The halt set, the mode, a creep period and a report (R90, R93). -/
theorem State.addHolder_shape (s : State) (n : Nat) :
    ∃ h l c p, s.addHolder n = { s with halt := h, line := l, creep := c, port := p } := by
  unfold State.addHolder
  split
  all_goals first
    | exact ⟨_, _, _, _, rfl⟩
    | (obtain ⟨a, l, c, h⟩ := State.withHolders_shape s _
       dsimp only
       rw [h]
       exact ⟨_, _, _, _, rfl⟩)

/-- The halt set, the mode, a creep period and a report (R90, R93). -/
theorem State.removeHolder_shape (s : State) (n : Nat) :
    ∃ h l c p, s.removeHolder n = { s with halt := h, line := l, creep := c, port := p } := by
  unfold State.removeHolder
  split
  all_goals first
    | exact ⟨_, _, _, _, rfl⟩
    | (obtain ⟨a, l, c, h⟩ := State.withHolders_shape s _
       dsimp only
       rw [h]
       exact ⟨_, _, _, _, rfl⟩)

/-- An own cause: the set of causes, the halt set, the line halt slot and a report (R92). -/
theorem State.addCause_shape (s : State) (r : HaltReason) :
    ∃ h l c p, s.addCause r = { s with halt := h, line := l, creep := c, port := p } := by
  unfold State.addCause
  dsimp only
  split
  · exact ⟨_, _, _, _, rfl⟩
  · obtain ⟨a, l, c, p, h⟩ := State.addHolder_shape
      { s with halt := { s.halt with causes := s.halt.causes.put r true } } s.params.stationNo
    obtain ⟨l', h'⟩ := State.place_shape
      (({ s with halt := { s.halt with causes := s.halt.causes.put r true } } : State).addHolder s.params.stationNo)
      .lineHalt (.halt r)
    rw [h', h]
    exact ⟨_, _, _, _, rfl⟩

/-- An own cause withdrawn (R92). -/
theorem State.removeCause_shape (s : State) (r : HaltReason) :
    ∃ h l c p, s.removeCause r = { s with halt := h, line := l, creep := c, port := p } := by
  unfold State.removeCause
  dsimp only
  split
  · obtain ⟨a, l, c, p, h⟩ := State.removeHolder_shape
      { s with halt := { s.halt with causes := s.halt.causes.put r false } } s.params.stationNo
    obtain ⟨l', h'⟩ := State.place_shape
      (({ s with halt := { s.halt with causes := s.halt.causes.put r false } } : State).removeHolder
        s.params.stationNo) .lineHalt .resume
    rw [h', h]
    exact ⟨_, _, _, _, rfl⟩
  · exact ⟨_, _, _, _, rfl⟩

/-- The cause of a fault kind (R36). -/
theorem State.giveCauseOf_shape (s : State) (kind : FaultKind) :
    ∃ h l c p, s.giveCauseOf kind = { s with halt := h, line := l, creep := c, port := p } := by
  unfold State.giveCauseOf
  split
  · exact State.addCause_shape s _
  · exact ⟨_, _, _, _, rfl⟩

/-- The causes no zone gives any more are withdrawn (R36). -/
theorem State.withdrawZoneCauses_shape (s : State) :
    ∃ h l c p, s.withdrawZoneCauses = { s with halt := h, line := l, creep := c, port := p } := by
  unfold State.withdrawZoneCauses
  dsimp only
  obtain ⟨a, l, c, p, h⟩ := State.removeCause_shape s .landingConflict
  split
  all_goals
    split
    all_goals first
      | exact ⟨_, _, _, _, rfl⟩
      | exact State.removeCause_shape s _
      | (obtain ⟨a', l', c', p', h'⟩ := State.removeCause_shape (s.removeCause .landingConflict) .liftedInMotion
         rw [h', h]
         exact ⟨_, _, _, _, rfl⟩)
      | (rw [h]
         exact ⟨_, _, _, _, rfl⟩)

/-- The causes of standing faults are given (R39). -/
theorem State.giveZoneCauses_shape (s : State) :
    ∃ h l c p, s.giveZoneCauses = { s with halt := h, line := l, creep := c, port := p } := by
  unfold State.giveZoneCauses
  dsimp only
  obtain ⟨a, l, c, p, h⟩ := State.addCause_shape s .landingConflict
  split
  all_goals
    split
    all_goals first
      | exact ⟨_, _, _, _, rfl⟩
      | exact State.addCause_shape s _
      | (obtain ⟨a', l', c', p', h'⟩ := State.addCause_shape (s.addCause .landingConflict) .liftedInMotion
         rw [h', h]
         exact ⟨_, _, _, _, rfl⟩)
      | (rw [h]
         exact ⟨_, _, _, _, rfl⟩)

/-- A switch applied or failed, with its report (R110, R111). -/
theorem State.applySwitch_shape (s : State) :
    ∃ ls p, s.applySwitch = { s with lists := ls, port := p } := by
  unfold State.applySwitch
  repeat' (first | split | (dsimp only; split))
  all_goals exact ⟨_, _, rfl⟩

/-- A deferred switch is applied, or waits (R109). -/
theorem State.runDeferredSwitch_shape (s : State) :
    ∃ ls p, s.runDeferredSwitch = { s with lists := ls, port := p } := by
  unfold State.runDeferredSwitch
  split
  · exact State.applySwitch_shape s
  · exact ⟨_, _, rfl⟩

/-- A charged entry leaves ACTIVE, or its lack is reported (R112). -/
theorem State.removeCharged_shape (s : State) (id : Nat) :
    ∃ ls p, s.removeCharged id = { s with lists := ls, port := p } := by
  unfold State.removeCharged
  repeat' (first | split | (dsimp only; split))
  all_goals exact ⟨_, _, rfl⟩

/-- A routing reason with its report (R29). -/
theorem State.addRoutingHold_shape (s : State) (r : Record) (k : Nat) (reason : HoldReason) (kind : ReportKind) :
    ∃ st p, s.addRoutingHold r k reason kind = { s with store := st, port := p } := by
  unfold State.addRoutingHold
  repeat' (first | split | (dsimp only; split))
  all_goals exact ⟨_, _, rfl⟩

/-- Routing acts on a record's hold reasons, with a report (R29). -/
theorem State.routeSlab_shape (s : State) (k id : Nat) :
    ∃ st p, s.routeSlab k id = { s with store := st, port := p } := by
  unfold State.routeSlab
  split
  · exact ⟨_, _, rfl⟩
  · split
    · exact State.addRoutingHold_shape s _ _ _ _
    · exact State.addRoutingHold_shape s _ _ _ _
    · exact ⟨_, _, rfl⟩

/-- Routing of every slab at rest in a zone (R28). -/
theorem State.routeZone_shape (s : State) (k : Nat) :
    ∃ st p, s.routeZone k = { s with store := st, port := p } := by
  unfold State.routeZone
  exact foldl_shape (fun a b => ∃ st p, b = { a with store := st, port := p }) (fun _ => ⟨_, _, rfl⟩)
    (fun _ _ _ h₁ h₂ => by obtain ⟨_, _, rfl⟩ := h₁; obtain ⟨_, _, rfl⟩ := h₂; exact ⟨_, _, rfl⟩)
    (fun t id => t.routeSlab k id) (fun t id => State.routeSlab_shape t k id) _ s

/-- A grant marks the two zones (R24, R25). -/
theorem State.startMove_shape (s : State) (k : Nat) :
    ∃ zs, s.startMove k = { s with zones := zs } := by
  unfold State.startMove
  repeat' (first | split | (dsimp only; split))
  all_goals exact ⟨_, rfl⟩

/-- A run-on reservation marks the next zone (R27). -/
theorem State.reserveRunOn_shape (s : State) (k : Nat) :
    ∃ zs, s.reserveRunOn k = { s with zones := zs } := by
  unfold State.reserveRunOn
  repeat' (first | split | (dsimp only; split))
  all_goals exact ⟨_, rfl⟩

/-- A zone's claimant is the slab that claimed it, while it lies in the zone before (R24, R26). -/
theorem State.claimant_eq_some (s : State) (k id : Nat) :
    s.claimant k = some id ↔ (s.zone k).claim = some id ∧ id ∈ (s.zone (k - 1)).occ := by
  simp [State.claimant, Option.filter_eq_some_iff]

/-- Run-on is reserved, or not (R27). -/
theorem State.testRunOn_shape (s : State) (k : Nat) :
    ∃ zs, s.testRunOn k = { s with zones := zs } := by
  unfold State.testRunOn
  split
  · exact State.reserveRunOn_shape s k
  · exact ⟨_, rfl⟩

/-- Stage 3 of a move: the zone map, and a track left behind (R25, R115). -/
theorem State.trailingEdge_shape (s : State) (k : Nat) :
    ∃ zs d, s.trailingEdge k = { s with zones := zs, door := d } := by
  unfold State.trailingEdge
  split
  · exact ⟨_, _, rfl⟩
  · dsimp only
    split
    · obtain ⟨z, h⟩ := State.testRunOn_shape ((s.moveHandle k _).dropTrack _) (k + 1)
      exact ⟨_, _, h⟩
    · obtain ⟨z, h⟩ := State.testRunOn_shape (s.moveHandle k _) (k + 1)
      exact ⟨_, _, h⟩

/-- A slab comes to rest and is routed (R20, R25, R28). -/
theorem State.comeToRest_shape (s : State) (k : Nat) :
    ∃ st zs p, s.comeToRest k = { s with store := st, zones := zs, port := p } := by
  unfold State.comeToRest
  obtain ⟨st, p, h⟩ := State.routeZone_shape (s.modZone k fun z =>
    { z.rested with lastTransit := (s.transit k).orElse fun _ => z.lastTransit }) k
  exact ⟨_, _, _, h⟩

/-- A zone goes to FAULT: its entry, a released reservation, a dropped crossing, an ended placement (R36, R82). -/
theorem State.faultZone_shape (s : State) (k : Nat) (kind : FaultKind) (partner : Option Nat) :
    ∃ st zs ic d, s.faultZone k kind partner = { s with store := st, zones := zs, inc := ic, door := d } := by
  unfold State.faultZone
  dsimp only
  have release : ∃ zs, (if s.runOn k then s.modZone (k + 1) Zone.freed else s) = { s with zones := zs } := by
    split <;> exact ⟨_, rfl⟩
  obtain ⟨zs, h₁⟩ := release
  rw [h₁]
  have drop : ∃ st zs' ic d, (if k = 0 then ({ s with zones := zs } : State).dropIncoming else { s with zones := zs }) =
      { s with store := st, zones := zs', inc := ic, door := d } := by
    split
    · obtain ⟨st, zs', ic, d, h⟩ := State.dropIncoming_shape { s with zones := zs }
      exact ⟨st, zs', ic, d, h⟩
    · exact ⟨_, _, _, _, rfl⟩
  obtain ⟨st, zs', ic, d, h₂⟩ := drop
  rw [h₂]
  split <;> exact ⟨_, _, _, _, rfl⟩

/-- Two zones of one move go to FAULT (R25, R26, R32). -/
theorem State.faultPair_shape (s : State) (k j : Nat) (kind : FaultKind) :
    ∃ st zs ic d, s.faultPair k j kind = { s with store := st, zones := zs, inc := ic, door := d } := by
  unfold State.faultPair
  obtain ⟨st, zs, ic, d, h⟩ := State.faultZone_shape s k kind (some j)
  obtain ⟨st', zs', ic', d', h'⟩ := State.faultZone_shape (s.faultZone k kind (some j)) j kind (some k)
  rw [h', h]
  exact ⟨_, _, _, _, rfl⟩

/-- An UNKNOWN zone becomes FREE, or stands (R35). -/
theorem State.unknownCleared_shape (s : State) (k : Nat) :
    ∃ zs p, s.unknownCleared k = { s with zones := zs, port := p } := by
  unfold State.unknownCleared
  repeat' (first | split | (dsimp only; split))
  all_goals exact ⟨_, _, rfl⟩

/-- A FREE zone becomes UNKNOWN, or stands (R35). -/
theorem State.freeShowsPresence_shape (s : State) (k : Nat) :
    ∃ zs p, s.freeShowsPresence k = { s with zones := zs, port := p } := by
  unfold State.freeShowsPresence
  repeat' (first | split | (dsimp only; split))
  all_goals exact ⟨_, _, rfl⟩

/-- Records are deleted with a report each (R37, R38). -/
theorem State.loseSlabs_shape (s : State) (k : Nat) (kind : ReportKind) (ids : List Nat) :
    ∃ st zs d p, s.loseSlabs k kind ids = { s with store := st, zones := zs, door := d, port := p } := by
  unfold State.loseSlabs
  exact foldl_shape (fun a b => ∃ st zs d p, b = { a with store := st, zones := zs, door := d, port := p })
    (fun _ => ⟨_, _, _, _, rfl⟩)
    (fun _ _ _ h₁ h₂ => by
      obtain ⟨_, _, _, _, rfl⟩ := h₁; obtain ⟨_, _, _, _, rfl⟩ := h₂; exact ⟨_, _, _, _, rfl⟩)
    (fun t id => (t.delRecord id).report kind (some k) (some id)) (fun _ _ => ⟨_, _, _, _, rfl⟩) _ s

/-- A measured length replaces the record's, with its comparison (R12). -/
theorem State.takeLength_shape (s : State) (id len k : Nat) :
    ∃ st p, s.takeLength id len k = { s with store := st, port := p } := by
  unfold State.takeLength
  repeat' (first | split | (dsimp only; split))
  all_goals exact ⟨_, _, rfl⟩

/-- A length measurement and the target that follows it (R120, R122). -/
theorem State.measure_shape (s : State) (id : Nat) (fall : Word) :
    ∃ st d p, s.measure id fall = { s with store := st, door := d, port := p } := by
  unfold State.measure
  split
  · exact ⟨_, _, _, rfl⟩
  · obtain ⟨st, p, h⟩ := State.takeLength_shape s id _ s.params.doorZone
    dsimp only
    rw [h]
    exact ⟨_, _, _, rfl⟩

/-- The stopping test stops the groups, or not (R128, R129). -/
theorem State.testStop_shape (s : State) :
    ∃ d, s.testStop = { s with door := d } := by
  unfold State.testStop
  repeat' (first | split | (dsimp only; split))
  all_goals exact ⟨_, rfl⟩

/-- A placement is suspended or continues (R128). -/
theorem State.syncSuspension_shape (s : State) :
    ∃ d, s.syncSuspension = { s with door := d } := by
  unfold State.syncSuspension
  repeat' (first | split | (dsimp only; split))
  all_goals exact ⟨_, rfl⟩

/-- A placement resumes (R135). -/
theorem State.resumePlacement_shape (s : State) (t : Track) :
    ∃ d, s.resumePlacement t = { s with door := d } := by
  unfold State.resumePlacement
  obtain ⟨d, h⟩ := State.testStop_shape { s with door := { s.door with
    substate := .positioning, placing := some t.id, suspended := false, still := none, phase := .approach } }
  exact ⟨_, h⟩

/-- A placement ends within tolerance (R128). -/
theorem State.endPlacement_shape (s : State) (t : Track) :
    ∃ zs d, s.endPlacement t = { s with zones := zs, door := d } := by
  unfold State.endPlacement
  dsimp only
  split
  · obtain ⟨d, h⟩ := State.resumePlacement_shape ((s.restZone s.params.doorZone).modTrack t.id fun x =>
      { x with placedAt := some (trackPosition s.params x) }) _
    exact ⟨_, _, h⟩
  · split <;> exact ⟨_, _, rfl⟩

/-- A placement ends in POSITION_FAULT (R130). -/
theorem State.positionFault_shape (s : State) (id : Nat) :
    ∃ st zs ic d p, s.positionFault id = { s with store := st, zones := zs, inc := ic, door := d, port := p } := by
  unfold State.positionFault
  obtain ⟨st, zs, ic, d, h⟩ := State.faultZone_shape s s.params.doorZone .positionFault none
  rw [h]
  exact ⟨_, _, _, _, _, rfl⟩

/-- A correction move begins (R129). -/
theorem State.correct_shape (s : State) (t : Track) (e : Int) :
    ∃ zs d, s.correct t e = { s with zones := zs, door := d } := by
  unfold State.correct
  repeat' (first | split | (dsimp only; split))
  all_goals exact ⟨_, _, rfl⟩

/-- The error decides: the end, a correction, or POSITION_FAULT (R128). -/
theorem State.measureError_shape (s : State) (t : Track) :
    ∃ st zs ic d p, s.measureError t = { s with store := st, zones := zs, inc := ic, door := d, port := p } := by
  unfold State.measureError
  dsimp only
  split
  · obtain ⟨zs, d, h⟩ := State.endPlacement_shape
      { s with door := { s.door with lastError := some (trackError s.params t) } } t
    rw [h]
    exact ⟨_, _, _, _, _, rfl⟩
  · split
    · obtain ⟨zs, d, h⟩ := State.correct_shape
        { s with door := { s.door with lastError := some (trackError s.params t) } } t (trackError s.params t)
      rw [h]
      exact ⟨_, _, _, _, _, rfl⟩
    · exact State.positionFault_shape
        { s with door := { s.door with lastError := some (trackError s.params t) } } t.id |>.elim
        fun st ⟨zs, ic, d, p, h⟩ => ⟨st, zs, ic, d, p, h⟩

/-- The leading edge at the door zone (R117, R120, R125). -/
theorem State.doorLeadingEdge_shape (s : State) (stamp : Option Word) :
    ∃ zs d, s.doorLeadingEdge stamp = { s with zones := zs, door := d } := by
  unfold State.doorLeadingEdge
  dsimp only
  split <;> split
  all_goals first
    | exact ⟨_, _, rfl⟩
    | (split <;> exact ⟨_, _, rfl⟩)

/-- A grant into the door zone, or nothing (R125). -/
theorem State.grantDoor_shape (s : State) (id : Nat) (role : Role) :
    ∃ zs d p, s.grantDoor id role = { s with zones := zs, door := d, port := p } := by
  unfold State.grantDoor
  split
  · dsimp only
    have marked : ∃ zs, (if role = Role.pairSecond then
        (({ s with door := s.grantContext id role } : State).receive s.params.doorZone).modZone
          s.params.doorZone fun z => { z with claim := some id }
        else ({ s with door := s.grantContext id role } : State).reserve s.params.doorZone (some id)) =
        { s with door := s.grantContext id role, zones := zs } := by
      split <;> exact ⟨_, rfl⟩
    obtain ⟨zs, h⟩ := marked
    rw [h]
    obtain ⟨p, hp⟩ := State.watchHit_shape
      (({ s with door := s.grantContext id role, zones := zs } : State).modZone s.approach fun z =>
        { z with departing := true }) id (some s.params.doorZone) 4
    have last : ∀ q : State, (∃ zs d p, q = { s with zones := zs, door := d, port := p }) →
        ∃ zs d p, (if q.entryHigh s.params.doorZone then q.doorLeadingEdge none else q) =
          { s with zones := zs, door := d, port := p } := by
      rintro _ ⟨zs', d', p', rfl⟩
      split
      · obtain ⟨z, d, h'⟩ := State.doorLeadingEdge_shape { s with zones := zs', door := d', port := p' } none
        exact ⟨_, _, _, h'⟩
      · exact ⟨_, _, _, rfl⟩
    exact last _ ⟨_, _, _, hp⟩
  · exact ⟨_, _, _, rfl⟩

/-- The trailing edge at the door zone (R124, R125, R128). -/
theorem State.doorTrailingEdge_shape (s : State) (stamp : Word) :
    ∃ st zs d p, s.doorTrailingEdge stamp = { s with store := st, zones := zs, door := d, port := p } := by
  unfold State.doorTrailingEdge
  dsimp only
  split
  · exact ⟨_, _, _, _, rfl⟩
  · rename_i id _
    obtain ⟨st, d, p, h⟩ := State.measure_shape ((s.moveHandle s.approach id).modTrack id fun x =>
      { x with handleMoved := true }) id stamp
    rw [h]
    split
    · obtain ⟨d', h'⟩ := State.testStop_shape _
      rw [h']
      exact ⟨_, _, _, _, rfl⟩
    · split
      · obtain ⟨z', h'⟩ := State.reserveRunOn_shape _ s.params.doorZone
        rw [h']
        exact ⟨_, _, _, _, rfl⟩
      · exact ⟨_, _, _, _, rfl⟩

/-- An abandonment, with its two reports (R134). -/
theorem State.abandonPair_shape (s : State) (cause : Nat) :
    ∃ d p, s.abandonPair cause = { s with door := d, port := p } := by
  unfold State.abandonPair
  repeat' (first | split | (dsimp only; split))
  all_goals exact ⟨_, _, rfl⟩

/-- A waiting move is granted, or waits (R24, R124). -/
theorem State.grantFrom_shape (s : State) (k : Nat) :
    ∃ zs, s.grantFrom k = { s with zones := zs } := by
  unfold State.grantFrom
  split
  · exact State.startMove_shape s k
  · exact ⟨_, rfl⟩

end Sys2Proof.Machine
end

