-- ==== Sys2Proof/Laws/Follow.lean ====
section
/-! SUPPORT. For each shared operation of the door, the handovers, the cycle and the pace, which fields of the state it
can change; and the cases of the Control Port's exchange. -/

namespace Sys2Proof.Machine

/-- OFF_CENTRE_CHARGE for each slab of the door zone (R135). -/
theorem State.reportOffCentre_shape (s : State) :
    ∃ p, s.reportOffCentre = { s with port := p } := by
  unfold State.reportOffCentre
  exact foldl_shape (fun a b => ∃ p, b = { a with port := p }) (fun _ => ⟨_, rfl⟩)
    (fun _ _ _ h₁ h₂ => by obtain ⟨_, rfl⟩ := h₁; obtain ⟨_, rfl⟩ := h₂; exact ⟨_, rfl⟩)
    (fun t id => t.report .offCentreCharge (some s.params.doorZone) (some id) ((t.door.find? id).map t.centreOffset))
    (fun _ _ => ⟨_, rfl⟩) _ s

/-- A derivation ends in POSITION_FAULT (R135). -/
theorem State.deriveFault_shape (s : State) (id : Option Nat) (value : Option Int) :
    ∃ st zs ic d p, s.deriveFault id value = { s with store := st, zones := zs, inc := ic, door := d, port := p } := by
  unfold State.deriveFault
  obtain ⟨st, zs, ic, d, h⟩ := State.faultZone_shape s s.params.doorZone .positionFault none
  dsimp only
  rw [h]
  exact ⟨_, _, _, _, _, rfl⟩

/-- Slabs within tolerance give POSITIONED or PAIR_WAIT (R135). -/
theorem State.derivePlaced_shape (s : State) (moment : DeriveAt) :
    ∃ d p, s.derivePlaced moment = { s with door := d, port := p } := by
  unfold State.derivePlaced
  dsimp only
  have abandon : ∀ t : State, (∃ d, t = { s with door := d }) → ∀ c, ∃ d p, t.abandonPair c =
      { s with door := d, port := p } := by
    rintro _ ⟨d, rfl⟩ c
    obtain ⟨d', p', h⟩ := State.abandonPair_shape { s with door := d } c
    exact ⟨_, _, h⟩
  repeat' split
  all_goals first
    | exact abandon _ ⟨_, rfl⟩ _
    | exact ⟨_, _, rfl⟩

/-- The derivation for slabs destined here (R135). -/
theorem State.deriveDestined_shape (s : State) (moment : DeriveAt) :
    ∃ st zs ic d p, s.deriveDestined moment = { s with store := st, zones := zs, inc := ic, door := d, port := p } := by
  unfold State.deriveDestined
  dsimp only
  split
  · obtain ⟨d, p, h⟩ := State.derivePlaced_shape s moment
    exact ⟨_, _, _, _, _, h⟩
  · split
    · obtain ⟨p, h⟩ := State.reportOffCentre_shape _
      rw [h]
      exact ⟨_, _, _, _, _, rfl⟩
    · split
      · obtain ⟨d, h⟩ := State.resumePlacement_shape s _
        exact ⟨_, _, _, _, _, h⟩
      · exact State.deriveFault_shape s _ _
    · split
      · exact State.deriveFault_shape s _ _
      · exact State.deriveFault_shape s _ _

/-- The derivation of the door substate (R135). -/
theorem State.derive_shape (s : State) (moment : DeriveAt) :
    ∃ st zs ic d p, s.derive moment = { s with store := st, zones := zs, inc := ic, door := d, port := p } := by
  unfold State.derive
  dsimp only
  split
  · split <;> exact ⟨_, _, _, _, _, rfl⟩
  · obtain ⟨st, zs, ic, d, p, h⟩ := State.deriveDestined_shape (State.withRoles { s with door :=
      { s.door.unplaced with tracks := s.derivedTracks, riseCount := none } } false) moment
    exact ⟨_, _, _, _, _, h⟩

/-- An admission reason with its report (R126, R127). -/
theorem State.holdAtDoor_shape (s : State) (r : Record) (reason : HoldReason) (kind : ReportKind) (value : Option Int) :
    ∃ st p, s.holdAtDoor r reason kind value = { s with store := st, port := p } := by
  unfold State.holdAtDoor
  dsimp only
  have others : ∃ st, ([HoldReason.outOfSequence, .unlisted, .tooLong].filter (· != reason)).foldl
      (fun t x => t.setHold r.id x false) s = { s with store := st } :=
    foldl_shape (fun a b => ∃ st, b = { a with store := st }) (fun _ => ⟨_, rfl⟩)
      (fun _ _ _ h₁ h₂ => by obtain ⟨_, rfl⟩ := h₁; obtain ⟨_, rfl⟩ := h₂; exact ⟨_, rfl⟩)
      (fun t x => t.setHold r.id x false) (fun _ _ => ⟨_, rfl⟩) _ s
  obtain ⟨st, h⟩ := others
  rw [h]
  split <;> exact ⟨_, _, rfl⟩

/-- Case a of the evaluation (R126). -/
theorem State.admitHead_shape (s : State) (r : Record) :
    ∃ st zs d p, s.admitHead r = { s with store := st, zones := zs, door := d, port := p } := by
  unfold State.admitHead
  split
  · obtain ⟨zs, d, p, h⟩ := State.grantDoor_shape (s.setHold r.id .tooLong false) r.id (s.headRole r)
    exact ⟨_, _, _, _, h⟩
  · split <;> exact ⟨_, _, _, _, rfl⟩

/-- The evaluation of the slab in the approach zone (R123). -/
theorem State.evaluateApproach_shape (s : State) :
    ∃ st zs d p, s.evaluateApproach = { s with store := st, zones := zs, door := d, port := p } := by
  unfold State.evaluateApproach State.holdOutOfTurn
  have abandon : ∀ c, ∃ st zs d p, s.abandonPair c = { s with store := st, zones := zs, door := d, port := p } := by
    intro c
    obtain ⟨d, p, h⟩ := State.abandonPair_shape s c
    exact ⟨_, _, _, _, h⟩
  have grant : ∀ id role, ∃ st zs d p, s.grantDoor id role =
      { s with store := st, zones := zs, door := d, port := p } := by
    intro id role
    obtain ⟨zs, d, p, h⟩ := State.grantDoor_shape s id role
    exact ⟨_, _, _, _, h⟩
  have hold : ∀ r reason kind value, ∃ st zs d p, s.holdAtDoor r reason kind value =
      { s with store := st, zones := zs, door := d, port := p } := by
    intro r reason kind value
    obtain ⟨st, p, h⟩ := State.holdAtDoor_shape s r reason kind value
    exact ⟨_, _, _, _, h⟩
  repeat' split
  all_goals first
    | exact abandon _
    | exact grant _ _
    | exact hold _ _ _ _
    | exact State.admitHead_shape s _
    | exact ⟨_, _, _, _, rfl⟩

/-- PASSING_HELD is queued, or not (R124). -/
theorem State.reportPassingHeld_shape (s : State) (k : Nat) :
    ∃ zs p, s.reportPassingHeld k = { s with zones := zs, port := p } := by
  unfold State.reportPassingHeld
  repeat' (first | split | (dsimp only; split))
  all_goals exact ⟨_, _, rfl⟩

/-- Both zones at which a passing slab can be held (R124). -/
theorem State.runPassingHeld_shape (s : State) :
    ∃ zs p, s.runPassingHeld = { s with zones := zs, port := p } := by
  unfold State.runPassingHeld
  split
  · obtain ⟨z, p, h⟩ := State.reportPassingHeld_shape s s.approach
    obtain ⟨z', p', h'⟩ := State.reportPassingHeld_shape (s.reportPassingHeld s.approach) s.params.doorZone
    rw [h', h]
    exact ⟨_, _, rfl⟩
  · exact ⟨_, _, rfl⟩

/-- An offer is made (R68). -/
theorem State.makeOffer_shape (s : State) (r : Record) :
    ∃ l o, s.makeOffer r = { s with line := l, out := o } := by
  unfold State.makeOffer
  obtain ⟨l, h⟩ := State.place_shape _ .offer _
  dsimp only
  rw [h]
  exact ⟨_, _, rfl⟩

/-- An offer is made, or not (R68). -/
theorem State.runOffer_shape (s : State) :
    ∃ l o, s.runOffer = { s with line := l, out := o } := by
  unfold State.runOffer
  split
  · split
    · exact State.makeOffer_shape s _
    · exact ⟨_, _, rfl⟩
  · exact ⟨_, _, rfl⟩

/-- An OFFER is taken back (R78). -/
theorem State.recallOffer_shape (s : State) :
    ∃ l, s.recallOffer = { s with line := l } := by
  unfold State.recallOffer
  repeat' split
  all_goals first
    | exact State.place_shape s _ _
    | exact ⟨_, rfl⟩

/-- An offer is withdrawn (R78). -/
theorem State.withdrawOffer_shape (s : State) (cause : Nat) :
    ∃ l o p, s.withdrawOffer cause = { s with line := l, out := o, port := p } := by
  unfold State.withdrawOffer
  obtain ⟨l, h⟩ := State.recallOffer_shape s
  dsimp only
  rw [h]
  exact ⟨_, _, _, rfl⟩

/-- An offer is withdrawn, or stands (R78). -/
theorem State.runWithdraw_shape (s : State) :
    ∃ l o p, s.runWithdraw = { s with line := l, out := o, port := p } := by
  unfold State.runWithdraw
  split
  · split
    · exact State.withdrawOffer_shape s _
    · exact ⟨_, _, _, rfl⟩
  · exact ⟨_, _, _, rfl⟩

/-- A crossing starts, or waits (R73). -/
theorem State.runCrossing_shape (s : State) :
    ∃ zs o, s.runCrossing = { s with zones := zs, out := o } := by
  unfold State.runCrossing
  repeat' (first | split | (dsimp only; split))
  all_goals exact ⟨_, _, rfl⟩

/-- A crossing completes (R77). -/
theorem State.completeCrossing_shape (s : State) :
    ∃ st zs o d p, s.completeCrossing = { s with store := st, zones := zs, out := o, door := d, port := p } := by
  unfold State.completeCrossing
  dsimp only
  have freed : ∃ zs, (if ((s.delRecord s.out.slab).zone s.exitZone).state = .fault then s.delRecord s.out.slab
      else (s.delRecord s.out.slab).freeZone s.exitZone) = { s.delRecord s.out.slab with zones := zs } := by
    split <;> exact ⟨_, rfl⟩
  obtain ⟨zs, h⟩ := freed
  rw [h]
  obtain ⟨p, hp⟩ := State.watchHit_shape (State.report { ({ s.delRecord s.out.slab with zones := zs } : State) with
    out := s.out.toNone } .passedOut (some s.exitZone) (some s.out.slab)
    ((s.record? s.out.slab).map fun r => (r.dest : Int))) s.out.slab (some s.exitZone) 3
  exact ⟨_, _, _, _, _, hp⟩

/-- A reservation is dropped (R79). -/
theorem State.dropReservation_shape (s : State) :
    ∃ st zs ic d p, s.dropReservation = { s with store := st, zones := zs, inc := ic, door := d, port := p } := by
  unfold State.dropReservation
  obtain ⟨st, zs, ic, d, h⟩ := State.dropIncoming_shape s
  dsimp only
  rw [h]
  exact ⟨_, _, _, _, _, rfl⟩

/-- An arrival (R76). -/
theorem State.arrive_shape (s : State) :
    ∃ st zs l ic p, s.arrive = { s with store := st, zones := zs, line := l, inc := ic, port := p } := by
  unfold State.arrive
  dsimp only
  obtain ⟨l, h⟩ := State.place_shape ((s.modRecord s.inc.slab fun r => { r with status := .live }).modZone 0 fun z =>
    { z with occ := z.occ ++ [s.inc.slab], handleMoved := true, timer := s.motion }) .arrived
    (.arrived s.inc.tag (BitVec.ofNat 32 s.inc.slab))
  simp only [State.motion] at h ⊢
  simp only [State.modRecord, State.modZone, State.setZone] at h ⊢
  rw [h]
  obtain ⟨p, hp⟩ := State.watchHit_shape _ s.inc.slab (some 0) 2
  rw [hp]
  obtain ⟨z, hz⟩ := State.testRunOn_shape _ 0
  exact ⟨_, _, _, _, _, hz⟩

/-- An OFFER is accepted (R71). -/
theorem State.acceptOffer_shape (s : State) (o : Offer) :
    ∃ st zs l ic, s.acceptOffer o = { s with store := st, zones := zs, line := l, inc := ic } := by
  unfold State.acceptOffer
  dsimp only
  obtain ⟨l, h⟩ := State.place_shape { ((s.reserve 0 none).addRecord (s.incomingRecord o.form)) with
    inc := ⟨.reserved, o.tag, (s.incomingRecord o.form).id, o.upstreamClass⟩ } .accept
    (.accept o.tag o.form.id (State.effClass { ((s.reserve 0 none).addRecord (s.incomingRecord o.form)) with
      inc := ⟨.reserved, o.tag, (s.incomingRecord o.form).id, o.upstreamClass⟩ } (s.incomingRecord o.form).id 0))
  have last : ∀ q : State, (∃ st zs l ic, q = { s with store := st, zones := zs, line := l, inc := ic }) →
      ∃ st zs l ic, (if q.entryHigh 0 then { q.receive 0 with inc := { q.inc with state := .receiving } } else q) =
        { s with store := st, zones := zs, line := l, inc := ic } := by
    rintro _ ⟨st, zs, l, ic, rfl⟩
    split <;> exact ⟨_, _, _, _, rfl⟩
  exact last _ ⟨_, _, _, _, h⟩

/-- A report of the cycle (R152). -/
theorem State.reportCharge_shape (s : State) (kind : ReportKind) (value : Option Int) :
    ∃ p, s.reportCharge kind value = { s with port := p } := by
  unfold State.reportCharge
  repeat' (first | split | (dsimp only; split))
  all_goals exact ⟨_, rfl⟩

/-- The cycle leaves IDLE, or not (R140). -/
theorem State.runCycleStart_shape (s : State) :
    ∃ d cy, s.runCycleStart = { s with door := d, cycle := cy } := by
  unfold State.runCycleStart
  repeat' (first | split | (dsimp only; split))
  all_goals exact ⟨_, _, rfl⟩

/-- A waiting report, at most once per cycle (R141). -/
theorem State.reportWait_shape (s : State) (told : Bool) (mark : Waits → Waits) (kind : ReportKind) (value : Option Int) :
    ∃ cy p, s.reportWait told mark kind value = { s with cycle := cy, port := p } := by
  unfold State.reportWait
  repeat' (first | split | (dsimp only; split))
  all_goals exact ⟨_, _, rfl⟩

/-- The readiness tests act on the cycle (R141). -/
theorem State.runReady_shape (s : State) :
    ∃ cy p, s.runReady = { s with cycle := cy, port := p } := by
  unfold State.runReady
  dsimp only
  have wait : ∀ c told mark kind value, ∃ cy p, State.reportWait (s.setCycle c) told mark kind value =
      { s with cycle := cy, port := p } := by
    intro c told mark kind value
    obtain ⟨cy, p, h⟩ := State.reportWait_shape (s.setCycle c) told mark kind value
    exact ⟨_, _, h⟩
  repeat' split
  all_goals first
    | exact wait _ _ _ _ _
    | exact ⟨_, _, rfl⟩

/-- Entry into PUSHING (R142, R144). -/
theorem State.startPush_shape (s : State) :
    ∃ cy p, s.startPush = { s with cycle := cy, port := p } := by
  unfold State.startPush
  repeat' (first | split | (dsimp only; split))
  all_goals exact ⟨_, _, rfl⟩

/-- An opened door starts the push (R143). -/
theorem State.runOpening_shape (s : State) :
    ∃ cy p, s.runOpening = { s with cycle := cy, port := p } := by
  unfold State.runOpening
  split
  · exact State.startPush_shape s
  · exact ⟨_, _, rfl⟩

/-- Entry into LIMBO (R145). -/
theorem State.enterLimbo_shape (s : State) (reason : LimboReason) :
    ∃ st zs ic d cy p, s.enterLimbo reason = { s with store := st, zones := zs, inc := ic, door := d, cycle := cy, port := p } := by
  unfold State.enterLimbo State.reportCharge
  dsimp only
  obtain ⟨st, zs, ic, d, h⟩ := State.faultZone_shape
    (s.setCycle { s.cycle with state := .limbo, timer := none, limbo := some reason, latePush := false })
    s.params.doorZone .pushFault none
  rw [h]
  exact ⟨_, _, _, _, _, _, rfl⟩

/-- An interrupted push enters LIMBO (R95, R144). -/
theorem State.runLimbo_shape (s : State) :
    ∃ st zs ic d cy p, s.runLimbo = { s with store := st, zones := zs, inc := ic, door := d, cycle := cy, port := p } := by
  unfold State.runLimbo
  split
  · exact State.enterLimbo_shape s _
  · exact ⟨_, _, _, _, _, _, rfl⟩

/-- The bar is back, or not (R147). -/
theorem State.runRetract_shape (s : State) :
    ∃ zs d cy, s.runRetract = { s with zones := zs, door := d, cycle := cy } := by
  unfold State.runRetract
  repeat' (first | split | (dsimp only; split))
  all_goals exact ⟨_, _, _, rfl⟩

/-- The door is shut, or not (R148). -/
theorem State.runClosing_shape (s : State) :
    ∃ cy, s.runClosing = { s with cycle := cy } := by
  unfold State.runClosing
  repeat' (first | split | (dsimp only; split))
  all_goals exact ⟨_, rfl⟩

/-- The cycle advances on its inputs (R139 to R148). -/
theorem State.runCycle_shape (s : State) :
    ∃ zs d cy p, s.runCycle = { s with zones := zs, door := d, cycle := cy, port := p } := by
  unfold State.runCycle
  split
  · obtain ⟨z, d, c, h⟩ := State.runRetract_shape s
    obtain ⟨c₁, h₁⟩ := State.runClosing_shape s.runRetract
    obtain ⟨d₂, c₂, h₂⟩ := State.runCycleStart_shape s.runRetract.runClosing
    obtain ⟨c₃, p₃, h₃⟩ := State.runReady_shape s.runRetract.runClosing.runCycleStart
    obtain ⟨c₄, p₄, h₄⟩ := State.runOpening_shape s.runRetract.runClosing.runCycleStart.runReady
    rw [h₄, h₃, h₂, h₁, h]
    exact ⟨_, _, _, _, rfl⟩
  · exact ⟨_, _, _, _, rfl⟩

/-- Door fault at opening (R143). -/
theorem State.openingFault_shape (s : State) :
    ∃ st zs ic d cy p, s.openingFault = { s with store := st, zones := zs, inc := ic, door := d, cycle := cy, port := p } := by
  unfold State.openingFault State.reportCharge
  dsimp only
  obtain ⟨st, zs, ic, d, h⟩ := State.faultZone_shape s s.params.doorZone .doorFault none
  rw [h]
  exact ⟨_, _, _, _, _, _, rfl⟩

/-- Door fault at closing (R148). -/
theorem State.closingFault_shape (s : State) :
    ∃ st zs ic d cy p, s.closingFault = { s with store := st, zones := zs, inc := ic, door := d, cycle := cy, port := p } := by
  unfold State.closingFault
  cases hm : s.doorMovePartner with
  | some j =>
    obtain ⟨st, zs, ic, d, h⟩ := State.faultPair_shape s s.params.doorZone j .doorFault
    dsimp only
    rw [h]
    exact ⟨_, _, _, _, _, _, rfl⟩
  | none =>
    obtain ⟨st, zs, ic, d, h⟩ := State.faultZone_shape s s.params.doorZone .doorFault none
    dsimp only
    rw [h]
    exact ⟨_, _, _, _, _, _, rfl⟩

/-- The retract timer expires (R147). -/
theorem State.retractFault_shape (s : State) :
    ∃ st zs ic d cy p, s.retractFault = { s with store := st, zones := zs, inc := ic, door := d, cycle := cy, port := p } := by
  unfold State.retractFault State.reportCharge
  dsimp only
  obtain ⟨st, zs, ic, d, h⟩ := State.faultZone_shape (s.setCycle { s.cycle with timer := none })
    s.params.doorZone .barFault none
  rw [h]
  exact ⟨_, _, _, _, _, _, rfl⟩

/-- Dreq and its flag (R170, R171). -/
theorem State.setDreq_shape (s : State) :
    ∃ pc p, s.setDreq = { s with pace := pc, port := p } := by
  unfold State.setDreq
  repeat' (first | split | (dsimp only; split))
  all_goals exact ⟨_, _, rfl⟩

/-- The line pace and PACE_CHANGED (R172, R173). -/
theorem State.recomputeLinePace_shape (s : State) :
    ∃ pc p, s.recomputeLinePace = { s with pace := pc, port := p } := by
  unfold State.recomputeLinePace
  repeat' (first | split | (dsimp only; split))
  all_goals exact ⟨_, _, rfl⟩

/-- Dreq and the line pace that follows it (R171, R172). -/
theorem State.recomputeDreq_shape (s : State) :
    ∃ pc p, s.recomputeDreq = { s with pace := pc, port := p } := by
  unfold State.recomputeDreq
  split
  · exact ⟨_, _, rfl⟩
  · obtain ⟨a, p, h⟩ := State.setDreq_shape s
    obtain ⟨a', p', h'⟩ := State.recomputeLinePace_shape s.setDreq
    rw [h', h]
    exact ⟨_, _, rfl⟩

/-- A discharge reaches the Pace Calculator (R166). -/
theorem State.takeDischarge_shape (s : State) (stamp : Word) :
    ∃ pc p, s.takeDischarge stamp = { s with pace := pc, port := p } := by
  unfold State.takeDischarge
  repeat' (first | split | (dsimp only; split))
  all_goals exact ⟨_, _, rfl⟩

/-- RESIDENCE_SATURATED for each saturating slab (R168). -/
theorem State.reportSaturated_shape (s : State) (slabs : List HearthSlab) :
    ∃ p, s.reportSaturated slabs = { s with port := p } := by
  unfold State.reportSaturated
  refine foldl_shape (fun a b => ∃ p, b = { a with port := p }) (fun _ => ⟨_, rfl⟩)
    (fun _ _ _ h₁ h₂ => by obtain ⟨_, rfl⟩ := h₁; obtain ⟨_, rfl⟩ := h₂; exact ⟨_, rfl⟩) _ ?_ _ s
  intro a x
  split <;> exact ⟨_, rfl⟩

/-- Every waiting move is tested (R24). -/
theorem State.runGrants_shape (s : State) :
    ∃ zs, s.runGrants = { s with zones := zs } := by
  unfold State.runGrants
  exact foldl_shape (fun a b => ∃ zs, b = { a with zones := zs }) (fun _ => ⟨_, rfl⟩)
    (fun _ _ _ h₁ h₂ => by obtain ⟨_, rfl⟩ := h₁; obtain ⟨_, rfl⟩ := h₂; exact ⟨_, rfl⟩)
    State.grantFrom State.grantFrom_shape _ s

/-- A request before START, or after it (11.2). -/
theorem whenStarted_cases (s : State) (run : State → State × Response) :
    (s.started = true ∧ whenStarted s run = run s) ∨
    (s.started = false ∧ whenStarted s run = (s, .refuse .mode)) := by
  unfold whenStarted
  cases h : s.started <;> simp

/-- A tested request is refused with the first reason, unchanged, or runs. -/
theorem tested_cases (s : State) (tests : List (Bool × Reason)) (run : State → State × Response) :
    (∃ r, firstRefusal tests = some r ∧ tested s tests run = (s, .refuse r)) ∨
    (firstRefusal tests = none ∧ tested s tests run = run s) := by
  unfold tested
  split
  · exact .inl ⟨_, by assumption, rfl⟩
  · exact .inr ⟨by assumption, rfl⟩

/-- A request in reset changes nothing (R175). -/
theorem hostRequest_low (bytes : Nat) (s : State) (run : State → State × Response) (h : s.resetLow = true) :
    hostRequest bytes s run = s := by
  simp [hostRequest, h]

/-- A request at an idle port is taken and answered (R176). -/
theorem hostRequest_idle (bytes : Nat) (s : State) (run : State → State × Response) (low : s.resetLow = false)
    (idle : s.port.state = .idle) :
    hostRequest bytes s run =
      (run (s.modPort fun p => { p with miso := quietMiso bytes })).1.answer
        (run (s.modPort fun p => { p with miso := quietMiso bytes })).2 := by
  simp [hostRequest, low, idle]

/-- A request at a port in work or answered is an overrun (R176). -/
theorem hostRequest_overrun (bytes : Nat) (s : State) (run : State → State × Response) (low : s.resetLow = false)
    (busy : s.port.state ≠ .idle) :
    hostRequest bytes s run =
      s.modPort fun p => { p with miso := quietMiso bytes, state := p.state.overrun } := by
  unfold hostRequest
  rw [low]
  cases h : s.port.state with
  | idle => exact absurd h busy
  | inWork o => simp [h, State.modPort]
  | answered r => simp [h, State.modPort]

/-- A step of a started station acts and settles; before START it changes nothing. -/
theorem act_cases (s : State) (run : State → State) :
    (s.started = true ∧ s.act run = .next (finish s (run s))) ∨ (s.started = false ∧ s.act run = .next s) := by
  unfold State.act
  cases h : s.started <;> simp

end Sys2Proof.Machine
end

