-- ==== Sys2Proof/Laws/Requests.lean ====
section
/-! SUPPORT. What a request does at a free port, said once; and what a state that has only taken a request still shows. -/

namespace Sys2Proof.Machine

/-- A request that only reads or writes the port's own state, at a free port. -/
theorem hostRequest_free (bytes : Nat) (s : State) (run : State → State × Response) (h : s.portFree) :
    hostRequest bytes s run = (run (s.taken bytes)).1.answer (run (s.taken bytes)).2 := by
  unfold hostRequest
  rw [h.1, h.2]
  rfl

/-- A request that changes the station, at a free port: its change is settled and it is answered. -/
theorem hostCommand_free (bytes : Nat) (s : State) (run : State → State × Response) (h : s.portFree) :
    (.next (hostCommand bytes s run) : Result) =
      settledReply s bytes (run (s.taken bytes)).1 (run (s.taken bytes)).2 := by
  unfold hostCommand
  rw [hostRequest_free bytes s _ h]
  rfl

@[simp] theorem State.taken_clk (s : State) (n : Nat) : (s.taken n).clk = s.clk := rfl
@[simp] theorem State.taken_pins (s : State) (n : Nat) : (s.taken n).pins = s.pins := rfl
@[simp] theorem State.taken_phase (s : State) (n : Nat) : (s.taken n).phase = s.phase := rfl
@[simp] theorem State.taken_params (s : State) (n : Nat) : (s.taken n).params = s.params := rfl
@[simp] theorem State.taken_store (s : State) (n : Nat) : (s.taken n).store = s.store := rfl
@[simp] theorem State.taken_zones (s : State) (n : Nat) : (s.taken n).zones = s.zones := rfl
@[simp] theorem State.taken_line (s : State) (n : Nat) : (s.taken n).line = s.line := rfl
@[simp] theorem State.taken_out (s : State) (n : Nat) : (s.taken n).out = s.out := rfl
@[simp] theorem State.taken_inc (s : State) (n : Nat) : (s.taken n).inc = s.inc := rfl
@[simp] theorem State.taken_halt (s : State) (n : Nat) : (s.taken n).halt = s.halt := rfl
@[simp] theorem State.taken_creep (s : State) (n : Nat) : (s.taken n).creep = s.creep := rfl
@[simp] theorem State.taken_lists (s : State) (n : Nat) : (s.taken n).lists = s.lists := rfl
@[simp] theorem State.taken_door (s : State) (n : Nat) : (s.taken n).door = s.door := rfl
@[simp] theorem State.taken_cycle (s : State) (n : Nat) : (s.taken n).cycle = s.cycle := rfl
@[simp] theorem State.taken_hearth (s : State) (n : Nat) : (s.taken n).hearth = s.hearth := rfl
@[simp] theorem State.taken_pace (s : State) (n : Nat) : (s.taken n).pace = s.pace := rfl
@[simp] theorem State.taken_started (s : State) (n : Nat) : (s.taken n).started = s.started := rfl
@[simp] theorem State.taken_now (s : State) (n : Nat) : (s.taken n).now = s.now := rfl
@[simp] theorem State.taken_record (s : State) (n id : Nat) : (s.taken n).record? id = s.record? id := rfl
@[simp] theorem State.taken_zone (s : State) (n k : Nat) : (s.taken n).zone k = s.zone k := rfl
@[simp] theorem State.taken_hasZone (s : State) (n k : Nat) : (s.taken n).hasZone k = s.hasZone k := rfl
@[simp] theorem State.taken_zonePins (s : State) (n k : Nat) : (s.taken n).zonePins k = s.zonePins k := rfl
@[simp] theorem State.taken_poolRefusal (s : State) (n id : Nat) : (s.taken n).poolRefusal id = s.poolRefusal id := rfl

end Sys2Proof.Machine
end

