-- ==== Sys2Proof/Laws/Resets.lean ====
section
/-! SUPPORT. What a warm reset that strikes a bank or a commit can leave (R113, R146, R150). -/

namespace Sys2Proof.Machine

/-- An entry that joins a struck bank is the new one or stood there (R113). -/
theorem mem_keepEntry {bank : List ListEntry} {e x : ListEntry} (h : x ∈ keepEntry bank e) : x ∈ bank ∨ x = e := by
  unfold keepEntry at h
  split at h
  · exact .inl h
  · simpa using h

/-- A struck bank's IDs stay distinct (R102). -/
theorem keepEntry_nodup {bank : List ListEntry} {e : ListEntry} (h : (bank.map fun x => x.id).Nodup) :
    ((keepEntry bank e).map fun x => x.id).Nodup := by
  unfold keepEntry
  split
  · exact h
  · next hn =>
    rw [List.map_append, List.nodup_append]
    refine ⟨h, by simp, ?_⟩
    intro a ha b hb hab
    simp only [List.map_cons, List.map_nil, List.mem_singleton] at hb
    obtain ⟨x, hx, rfl⟩ := List.mem_map.mp ha
    exact hn (List.any_eq_true.mpr ⟨x, hx, by simp [hab, hb]⟩)

/-- Entries of the folded bank are the first ones or those folded in; its IDs are distinct (R102, R113). -/
theorem foldl_keepEntry (es : List ListEntry) : ∀ bank : List ListEntry, (bank.map fun x => x.id).Nodup →
    ((es.foldl keepEntry bank).map fun x => x.id).Nodup ∧ ∀ x ∈ es.foldl keepEntry bank, x ∈ bank ∨ x ∈ es := by
  induction es with
  | nil => intro bank h; exact ⟨h, fun x hx => .inl hx⟩
  | cons e es ih =>
    intro bank h
    obtain ⟨h₁, h₂⟩ := ih (keepEntry bank e) (keepEntry_nodup h)
    refine ⟨h₁, fun x hx => ?_⟩
    rcases h₂ x hx with h | h
    · rcases mem_keepEntry h with h | rfl
      · exact .inl h
      · exact .inr (by simp)
    · exact .inr (List.mem_cons_of_mem _ h)

/-- A struck bank holds at most 24 entries, no ID twice, and only entries of the old banks (R113). -/
theorem struckEntries_spec (old : List ListEntry) (places : List Nat) :
    (struckEntries old places).length ≤ 24 ∧ ((struckEntries old places).map fun x => x.id).Nodup ∧
    ∀ x ∈ struckEntries old places, x ∈ old := by
  obtain ⟨h₁, h₂⟩ := foldl_keepEntry (places.filterMap fun i => old[i]?) [] (by simp)
  refine ⟨List.length_take_le _ _, ?_, fun x hx => ?_⟩
  · exact List.Nodup.sublist (List.Sublist.map _ (List.take_sublist _ _)) h₁
  · rcases h₂ x (List.mem_of_mem_take hx) with h | h
    · simp at h
    · obtain ⟨i, -, hi⟩ := List.mem_filterMap.mp h
      exact List.mem_of_getElem? hi

/-- Struck banks change the lists and take two free values (R113). -/
theorem State.banksStruck_shape (s : State) :
    ∃ l, s.banksStruck = { s with lists := l, freeIx := s.freeIx + 1 + 1 } ∧ l.suspect = true ∧
      l.deferred = s.lists.deferred := ⟨_, rfl, rfl, rfl⟩

/-- A switch application begins only where a deferred switch is due (R109). -/
theorem switchPoint_due (n : Nat) (old s t : State) (h : switchPoint n old s = some t) : t.switchDue = true := by
  induction n generalizing old s with
  | zero => simp [switchPoint] at h
  | succ n ih =>
    simp only [switchPoint] at h
    split at h
    · simp_all
    · split at h
      · simp_all
      · exact ih _ _ h

/-- The state in which a cause's switch application begins holds a switch that is due (R108, R109). -/
theorem State.beforeSwitch_due (s t : State) (cause : SwitchCause) (h : s.beforeSwitch cause = some t) :
    t.switchDue = true := by
  unfold State.beforeSwitch at h
  split at h
  · cases h
  · split at h
    · rename_i c
      cases h
      exact c.2
    · split at h
      · exact switchPoint_due _ _ _ _ h
      · cases h

/-- A struck switch leaves the state as it stands, or the banks of the state in which it began as struck ones (R113). -/
theorem State.switchStruck_cases (s : State) (cause : SwitchCause) :
    s.switchStruck cause = s ∨
    ∃ t, s.beforeSwitch cause = some t ∧ t.switchDue = true ∧ t.switchFits = true ∧
      s.switchStruck cause = s.keeping t.banksStruck := by
  unfold State.switchStruck
  cases h : s.beforeSwitch cause with
  | none => exact .inl rfl
  | some t =>
    cases f : t.switchFits with
    | false => exact .inl (by simp [f])
    | true => exact .inr ⟨t, rfl, s.beforeSwitch_due t cause h, f, by simp [f]⟩

/-- The begin of a commit changes the cycle, and after CONFIRM_CHARGED the door zone's entry (R150). -/
theorem State.commitBase_shape (s : State) :
    ∃ zs p c, s.commitBase = { s with zones := zs, port := p, cycle := c } ∧ c.charge = s.cycle.charge ∧
      c.committing = true := by
  unfold State.commitBase
  split
  · exact ⟨_, _, _, rfl, rfl, rfl⟩
  · exact ⟨_, _, _, rfl, rfl, rfl⟩

end Sys2Proof.Machine
end

