-- ==== Sys2Proof/Tests/Slice0.lean ====
section
/-! SUPPORT. Tests: the well-formedness smoke test, single steps whose expected results come from the spec's tables and
examples, and for every statement with hypotheses a witness that meets them, each clause at the edge of its range. -/

namespace Sys2Proof.Tests

open Sys2Proof Sys2Proof.Machine

/-! ## A small station -/

/-- Station 2 of 1, 2, 3, with a furnace at zone 2 of four zones, landing permission on zone 0 and HOT_LIMIT 100. -/
def cfg : Params := ((((((Params.defaults.put 1 2).put 2 7).put 5 1).put 6 4).put 7 2).put 14 1).put 24 100

/-- A slab's record, destined for station 2. -/
def slab (id : Nat) : Record where
  id := id
  seq := id
  dest := 2
  nominal := 3000
  measured := none
  width := 1500
  thickness := 200
  weight := 20000
  cls := .warm
  classStamp := 0
  hostClass := .run
  baseClass := .run
  permit := true
  holds := {}
  landing := some (0, 2)
  status := .live

/-- A zone in a state with its occupants. -/
def zn (st : ZoneState) (occ : List Nat := []) : Zone := { state := st, occ := occ }

/-- A zone in FAULT. -/
def flt (kind : FaultKind) (partner : Option Nat) (occ : List Nat := []) : Zone :=
  { state := .fault, fault := some ⟨kind, partner⟩, occ := occ }

/-- An OCCUPIED zone whose slab is departing. -/
def going (occ : List Nat) : Zone := { state := .occupied, occ := occ, departing := true }

/-- A RECEIVING zone whose handle has moved. -/
def moved (occ : List Nat) : Zone := { state := .receiving, occ := occ, handleMoved := true, timer := some 9 }

/-- A RECEIVING zone whose slab has been granted run-on. -/
def running (occ : List Nat) : Zone := { moved occ with runOnGranted := true }

/-- The station in RUN, its four zones FREE. -/
def up : State :=
  { State.reset with
    phase := .started
    params := cfg
    zones := List.replicate 4 {}
    line := { mode := .run, stage := .passed, declaring := true, period := some 100, silence := some 900,
              peers := [{ station := 1, state := .qualified, lastSeq := some 7 },
                        { station := 3, state := .heard, consecutive := 2, lastSeq := some 7 }] } }

/-- The station with its zones, and the slabs 5 and 6 in its pool. -/
def on (a b c d : Zone) : State :=
  { up with zones := [{ a with landing := true }, b, c, d], store := { pool := [slab 5, slab 6] } }

/-- The station not started. -/
def down : State := { up with phase := .unstarted, line := {} }

/-- The station with the inputs of one zone. -/
def pinned (k : Nat) (p : ZonePins) (s : State) : State :=
  { s with pins := { s.pins with zones := s.pins.zones.set k p } }

/-- The station with another Line Interface mode. -/
def inMode (m : Mode) (s : State) : State := { s with line := { s.line with mode := m } }

/-- Slab 5 at the door, the cycle in a state with it as its charge. -/
def cyc (st : CycleState) : State :=
  { on {} {} (zn .occupied [5]) {} with
    cycle := { state := st, charge := [5], pitch := 1600, weightSum := 20000, timer := some 10 }
    door := { substate := .charging, tracks := [{ id := 5, role := .single, target := some 7500 }] } }

/-- A hearth position of one slab. -/
def pos (id : Nat) : Position where
  number := id
  slabs := [⟨id, 200, 1500, 20000, .warm⟩]
  pitch := 1600
  weightSum := 20000
  residence := 7000
  saturated := false
  chargeTime := 0
  offCentre := false
  stroke := some 3750
  margin := none

/-- The station with positions on its hearth. -/
def hot (ids : List Nat) (s : State) : State :=
  { s with hearth := { positions := ids.map pos, count := ids.length, fill := 1600 * ids.length,
                       load := 20000 * ids.length, nextNumber := 91, integrity := .intact } }

/-- A slab block in its ranges, with an ID. -/
def block (id : Nat) : SlabBlock := ⟨BitVec.ofNat 32 id, 7, 2, 3000, 1500, 200, 20000, 1, 0, 1, 0⟩

/-- A restore block of one slab. -/
def restore (id : Nat) : RestoreBlock := ⟨[⟨BitVec.ofNat 32 id, 200, 1500, 20000, 1⟩], 1600, 7000, 0, 0, 0, 0⟩

/-- A list entry and its block. -/
def entry (id : Nat) : ListEntry := ⟨id, id, true⟩
def eblock (id : Nat) : EntryBlock := ⟨BitVec.ofNat 32 id, BitVec.ofNat 16 id, 1⟩

/-- A bank of a number of entries. -/
def bankOf (n : Nat) : List ListEntry := (List.range n).map fun k => entry (k + 100)

/-- A transfer form of a slab. -/
def form (id : Nat) : TransferForm :=
  ⟨BitVec.ofNat 32 id, 7, 2, 3000, some 2990, 1500, 200, 20000, .warm, .run, true, 60, some (100, 1)⟩

/-- A declaration. -/
def decl : Declaration := ⟨.run, .free, 0, .free, 0, false, 0, 600, 40000, 0, 0⟩

/-- A report. -/
def told : Report := ⟨0, 0, .landed, some 0, some 5, none, false, 0⟩

/-- The station with an attempt in progress. -/
def sending (k : SlotKind) (b : FrameBody) (s : State) : State :=
  { s with line := { s.line with attempt := some ⟨k, ⟨2, 3, 9, b⟩, 4, false⟩ } }

/-- What a step that goes on leaves, and the state itself where it does not. -/
def after (r : Result) (s : State) : State :=
  match r with
  | .next t => t
  | _ => s

/-! ## Well-formedness -/

theorem test_wf_refuses :
    (Instr.requestOverrun [0, 1]).wf = false ∧ (Instr.requestOverrun []).wf = false ∧
    (Instr.badFrameRequest [1, 0]).wf = true ∧
    (Instr.badFrameRequest ((requestBytes .hearthConfirm).getD [])).wf = false ∧
    (Instr.listAppend 1 (List.replicate 73 (eblock 1))).wf = false ∧
    (Instr.listAppend 1 (List.replicate 72 (eblock 1))).wf = true ∧
    (Instr.hearthRestore { restore 1 with slabs := List.replicate 46 ⟨1, 200, 1500, 20000, 1⟩ }).wf = false ∧
    (Instr.resetPinLow (.clear 49 true)).wf = false ∧
    (Instr.resetPinLow (.append 1 [eblock 1] 2)).wf = false ∧
    (Instr.responseFetch 3 (.restore { restore 1 with slabs := List.replicate 46 ⟨1, 200, 1500, 20000, 1⟩ } true true)).wf
      = false ∧
    (Instr.peerStale 0).wf = false ∧ (Instr.peerStale 9).wf = false ∧ (Instr.peerStale 8).wf = true := by decide +kernel

theorem test_wf_refuses_frames :
    (Instr.offerReceived ⟨1, 0, 0⟩ ⟨1, .run, form 5⟩).wf = false ∧
    (Instr.offerReceived ⟨1, 9, 0⟩ ⟨1, .run, form 5⟩).wf = false ∧
    (Instr.offerReceived ⟨1, 2, 0⟩ ⟨1, .run, form 5⟩).wf = true ∧
    (Instr.offerReceived ⟨1, 2, 0⟩ ⟨1, .run, { form 5 with measured := some 0xFFFF }⟩).wf = false ∧
    (Instr.offerReceived ⟨1, 2, 0⟩ ⟨1, .run, { form 5 with landing := some (0xFFFFFFFF, 1) }⟩).wf = false ∧
    (Instr.offerReceived ⟨1, 2, 0⟩ ⟨1, .run, { form 5 with landing := some (100, 0) }⟩).wf = false ∧
    (Instr.acceptReceived ⟨1, 0, 0⟩ 1 5 .run).wf = false ∧ (Instr.declineReceived ⟨1, 9, 0⟩ 1 5 .busy).wf = false ∧
    (Instr.arrivedReceived ⟨1, 0, 0⟩ 1 5).wf = false ∧ (Instr.withdrawReceived ⟨1, 0, 0⟩ 1 5).wf = false := by
  decide +kernel

/-! ## Single steps and the spec's own numbers -/

/-- The check value of R44: the nine ASCII bytes 123456789 give 29B1h. -/
theorem test_crc_check : crc16 [0x31, 0x32, 0x33, 0x34, 0x35, 0x36, 0x37, 0x38, 0x39] = 0x29B1 := by decide +kernel

/-- SKIP_HEAD on an empty ACTIVE is refused STATE (R106). -/
theorem test_skip_empty :
    (after (exec .listSkipHead up) up).port.state = .answered { status := .refused, reason := .state } := by
  decide +kernel

/-- A slab that lands on an EXPECTING zone is LIVE at rest there (R31). -/
theorem test_landing :
    let s := on { zn .expecting with expected := some 5 } {} {} {}
    let t := after (exec (.landingInputRise 0) s) s
    (t.zone 0).occ = [5] ∧ (t.record? 5).map (fun r => r.status) = some .live := by decide +kernel

/-- The kind codes of R186: TRANSMIT_FAULT is 1 and WATCH_HIT is 68. -/
theorem test_kind_codes : ReportKind.transmitFault.code = 1 ∧ ReportKind.watchHit.code = 68 := by decide +kernel

/-- The example of 1.4: a form of class age 2,000 and age since landing 1,600 taken at 1,250. -/
theorem test_example_form :
    let s := { up with clk := { up.clk with seconds := 1250 } }
    let r := s.incomingRecord { form 9 with classAge := 2000, landing := some (1600, 3) }
    r.classStamp = -750 ∧ r.landing = some (-350, 3) := by decide +kernel

/-- The station of the example of 6.8: door zone 3 of five, the push of 9001 under way, and a switch deferred. -/
def switching : State :=
  let rcd (id : Nat) (st : RecordStatus) : Record := { slab id with dest := 5, status := st }
  { up with
    params := ((((cfg.put 1 5).put 2 48).put 6 5).put 7 3).put 14 0
    zones := [zn .reserved, zn .occupied [9002], zn .occupied [9003], zn .occupied [9001], {}]
    inc := { state := .reserved, slab := 9005, tag := 1 }
    store := { pool := [rcd 9001 .live, rcd 9002 .live, rcd 9003 .live, rcd 9005 .incoming] }
    lists := { active := [⟨9001, 310, false⟩, ⟨9002, 311, true⟩, ⟨9003, 312, true⟩, ⟨9004, 313, false⟩, ⟨9005, 314, false⟩]
               pendingBank := [⟨9004, 313, false⟩, ⟨9010, 401, true⟩, ⟨9011, 402, true⟩], deferred := true }
    cycle := { state := .pushing, charge := [9001], pitch := 1600, weightSum := 20000, timer := some 10 }
    door := { substate := .charging } }

/-- The commit of that push applies the switch in the same step. -/
theorem test_example_switch :
    let t := after (exec (.pushDoneRise true) switching) switching
    t.lists.active.map (fun e => e.id) = [9003, 9002, 9005, 9004, 9010, 9011] ∧ t.lists.pendingBank = [] ∧
    t.lists.deferred = false ∧
    t.port.reports.getLast?.map (fun r => (r.kind, r.value)) = some (.listSwitched, some 774) := by
  decide +kernel

/-- The example of Chapter 7: fit, target, measured length and tracked position of slab 60,101. -/
theorem test_example_pair :
    let p := (((((cfg.put 28 2000).put 31 10400).put 32 200).put 33 300).put 35 11000).put 36 250
    singleFit p 4180 = true ∧ roleTarget p .pairFirst 4180 = some 10330 ∧ roleTarget p .pairFirst 4200 = some 10350 ∧
    measuredLength p 8401 = 4200 ∧ trackPosition p { id := 5, role := .pairFirst, count := 20662 } = 10331 := by
  decide +kernel

/-- The example of Chapter 9: a charge 9,000 s in the furnace restored at 120, and its discharge at 600. -/
theorem test_example_restore :
    let s := { down with clk := { down.clk with seconds := 120 } }
    let b : RestoreBlock := { restore 70001 with pitch := 2250, residence := 10800, elapsed := 9000 }
    let t := after (exec (.hearthRestore b) s) s
    t.hearth.positions.map (fun p => (p.number, p.chargeTime)) = [(1, -8880)] ∧ t.hearth.fill = 2250 ∧
    (let u := { t with phase := .started, clk := { t.clk with seconds := 600 } }
     (after (exec (.discharge 0) u) u).port.reports.map (fun r => (r.kind, r.slab, r.value)) =
       [(.discharged, some 70001, some 9480)]) := by decide +kernel

/-- The example of 11.5: the queue is full, a report is discarded, and its number is taken. -/
theorem test_example_queue :
    let s := { up with port := { up.port with reports := List.replicate 31 told, nextNumber := 1231, alertLevel := 5 } }
    let t := s.report .haltOn
    let u := t.report .pushFault
    s.alertLow = false ∧ t.alertLow = true ∧ u.port.nextNumber = 1233 ∧ u.port.reports.length = 32 ∧
    u.port.reports.getLast?.map (fun r => (r.number, r.lostAfter, r.lost)) = some (1231, true, 1) := by decide +kernel

/-- The example of 3.4: station 2 must wait 108 bit times after a collision, station 5 must wait 180. -/
theorem test_example_backoff :
    let s (n : Nat) := { up with params := cfg.put 1 n, line := { up.line with backoff := true } }
    (s 2).requiredGap = 108 ∧ (s 5).requiredGap = 180 := by decide +kernel

/-- R59: a frame taken before the expiry restarts the silence timer, and the station stays in its mode. -/
theorem test_silence_overtaken :
    let s := { up with line := { up.line with silence := some 0 } }
    let t := after (exec (.haltReceived ⟨1, 8⟩ .host) s) s
    (after (exec .lineSilent s) s).line.mode = .isolated ∧ (after (exec .lineSilent t) t).line.mode = .halted := by
  decide +kernel

/-- R63: a declaration taken before the expiry keeps the entry's state. -/
theorem test_stale_overtaken :
    let p : Peer := { station := 1, state := .qualified, age := some 1000, lastSeq := some 7 }
    let s := { up with line := { up.line with peers := [p] } }
    let t := after (exec (.declareReceived ⟨1, 8⟩ decl) s) s
    (after (exec (.peerStale 1) s) s).line.peers.map (fun q => q.state) = [.stale] ∧
    (after (exec (.peerStale 1) t) t).line.peers.map (fun q => q.state) = [.qualified] := by decide +kernel

/-- R20: the transit is from the entry edge of the same passage, whatever has risen at the entry sensor since. -/
theorem test_transit_of_its_passage :
    let s := on {} { moved [5] with passage := some 400 } {} {}
    let t := after (exec (.entrySensorRise 1 900) s) s
    ((after (exec (.restSensorRise 1 2400) t) t).zone 1).lastTransit = some 2000 := by decide +kernel

/-- R150, R138: a reset that strikes the commit CONFIRM_CHARGED began finds the door zone out of FAULT; and R159, R162: one
that strikes a HEARTH_CLEAR of an empty record makes it SUSPECT. -/
theorem test_struck :
    let s : State := { cyc .limbo with zones := [{}, {}, flt .pushFault none [5], {}] }
    ((after (exec (.resetPinLow .commitBegun) s) s).zone 2).state = .occupied ∧
    (after (exec (.resetPinLow (.clear 0 true)) up) up).hearth.integrity = .suspect := by decide +kernel

/-- No row of the table gives bits, so no word spells a command. -/
theorem test_no_words : decodeTableWord 8 0x21 = none ∧ up.withFetchWord 8 0x21 = up := by decide +kernel

/-! ## Witnesses: steps, resets and the control port -/

theorem wit_IdleStep :
    let s := { up with clk := { up.clk with subsec := 999 }, line := { up.line with silence := some 1 } }
    s.pending = [] ∧ 999 ≤ s.clk.subsec ∧ s.started = true ∧ s.line.silence = some 1 ∧ down.pending = [] ∧
    down.started = false ∧ ({ down with phase := .reconciling 1 }).phase = .reconciling 1 := by decide +kernel

theorem wit_ResetPin :
    (cyc .pushing).resetLow = false ∧ (cyc .pushing).cycle.committing = false ∧
    (cyc .pushing).cycle.state = .pushing ∧ (cyc .limbo).cycle.state = .limbo ∧
    (cyc .limbo).cycle.committing = false ∧ ((cyc .retracting).cycle.state ≠ .pushing ∧
    (cyc .retracting).cycle.state ≠ .limbo) ∧ ({ up with resetLow := true }).resetLow = true := by decide +kernel

theorem wit_StruckHearth :
    let s := hot [90] up
    let full := hot (List.range 47) up
    (cyc .pushing).resetLow = false ∧ (cyc .pushing).started = true ∧ (cyc .pushing).cycle.state = .pushing ∧
    (cyc .pushing).line.mode = .run ∧ (cyc .limbo).resetLow = false ∧ (cyc .limbo).started = true ∧
    (cyc .limbo).cycle.state = .limbo ∧ (cyc .limbo).port.state = .idle ∧
    (cyc .limbo).params.doorZone < (cyc .limbo).zones.length ∧ s.phase ≠ .unstarted ∧ s.resetLow = false ∧ s.started = true ∧ s.params.hasFurnace = true ∧ s.hearth.positions ≠ [] ∧
    s.port.state = .idle ∧ s.editsRefused = false ∧ (0 : Byte).toNat < s.hearth.positions.length ∧
    (restorePosition? (restore 91) s.now s.hearth.nextNumber).map (fun p => (p.pitch, p.weightSum)) = some (1600, 20000) ∧
    s.restoreDuplicate [91] = false ∧ s.hearth.hasRoom s.params 1600 20000 = true ∧
    full.hearth.positions.length = 47 ∧ full.editsRefused = false ∧
    (restorePosition? (restore 91) full.now full.hearth.nextNumber).isSome = true ∧
    full.restoreDuplicate [91] = false := by decide +kernel

theorem wit_StruckList :
    let pair := { cyc .pushing with cycle := { (cyc .pushing).cycle with charge := [5, 6] } }
    up.resetLow = false ∧ up.port.state = .idle ∧ Bank.ofCode? (1 : Byte).toNat = some .active ∧
    Bank.ofCode? (2 : Byte).toNat = some .pending ∧ (entries? [eblock 1]).map List.length = some 1 ∧
    (entries? ((List.range 24).map fun k => eblock (k + 1))).map List.length = some 24 ∧
    pair.resetLow = false ∧ pair.started = true ∧ pair.cycle.state = .pushing ∧ pair.cycle.charge = [5, 6] := by
  decide +kernel

/-- A pair wait with a deferred switch; slab 6, bound for the next station, is in the approach zone. -/
def pairing (a : Zone) (d : Zone := zn .occupied [5]) : State :=
  { on {} { a with occ := [6], verified := true } d {} with
    lists := { active := [entry 5, entry 6], deferred := true }
    store := { pool := [slab 5, { slab 6 with dest := 3 }] }
    door := { substate := .pairWait, pairTimer := some 0, tracks := [{ id := 5, role := .pairFirst }] } }

/-- R25, R109, R113, R123: a passing slab comes to rest in the approach zone of a pair wait, and the switch that the
abandonment brings is struck; with the door zone in FAULT the pair wait's expiry brings none (R132). -/
theorem test_struckSwitch :
    (match exec (.resetPinLow (.switch (.slabRests 1 5))) (pairing (moved [])) with
     | .next t => t.lists.suspect && t.door.substate == .positioned && (t.zone 1).state == .occupied &&
         (t.zonePins 1).rest == false
     | _ => false) = true ∧
    (pairing (moved []) (flt .slabDisplaced none [5])).beforeSwitch .pairExpired = none := by decide +kernel

/-- R113: the removal of a pair's entries is no update of a bank that holds neither. -/
theorem test_struckRemoval :
    let s (es : List ListEntry) : State :=
      { cyc .pushing with cycle := { (cyc .pushing).cycle with charge := [5, 6] }, lists := { active := es } }
    let suspect (es : List ListEntry) : Bool :=
      match exec (.resetPinLow (.commitRemoving false)) (s es) with
      | .next t => t.lists.suspect
      | _ => false
    suspect [entry 7, entry 6] = true ∧ suspect [entry 7] = false := by decide +kernel

/-- The first entry of a struck append taken and refused; a switch that each cause brings about, and one that none does. -/
theorem wit_StruckList_switch :
    let wait (s : State) : State := { s with lists := { s.lists with deferred := true } }
    let back := wait { cyc .limbo with pins := { up.pins with barHome := true } }
    let open_ := wait { cyc .doorOpening with
      cycle := { (cyc .doorOpening).cycle with timer := some 0 }, pins := { up.pins with furnPermit := true } }
    let pair := pairing (zn .occupied)
    let enter := pairing (moved [])
    let runs (s : State) (c : SwitchCause) : Bool := (s.beforeSwitch c).any fun u => u.switchFits
    appendRefusal [] (entry 1) = none ∧ appendRefusal [entry 1] (entry 1) ≠ none ∧
    runs up .request = true ∧ runs back .returned = true ∧ runs open_ .openingFault = true ∧
    runs open_ .permitLost = true ∧ runs pair .pairExpired = true ∧ runs enter (.slabRests 1 5) = true ∧
    runs pair .headSkipped = true ∧ up.switchDeferred = false ∧ pair.started = true ∧ pair.lists.deferred = true ∧
    pair.cycle.holdsLists = false ∧ pair.door.substate = .pairWait ∧ pair.line.mode = .run ∧
    pair.door.pairTimer = some 0 ∧ pair.doorEntry.state ≠ .fault ∧ pair.occupantTracks ≠ [] ∧
    enter.params.hasFurnace = true ∧ 1 = enter.approach ∧ 1 < enter.params.doorZone ∧ 1 < enter.zones.length ∧
    1 < enter.pins.zones.length ∧ (enter.zonePins 1).rest = false ∧ (enter.zone 1).state = .receiving ∧
    (enter.zone 1).handleMoved = true ∧ enter.runOn 1 = false ∧ (enter.zone 1).verified = true ∧
    (enter.zone 1).occ = [6] ∧ (enter.record? 6).map (fun r => r.dest) = some 3 ∧ 3 ≠ enter.params.stationNo ∧
    enter.occupantTracks ≠ [] ∧
    (wait up).beforeSwitch .request = none ∧ back.port.state = .idle ∧ back.started = true ∧
    back.cycle.state = .limbo ∧ back.pins.barHome = true ∧ back.lists.deferred = true ∧
    switching.lists.deferred = true ∧ (switching.commitPart true 2 true).switchFits = true ∧
    switching.cycle.state = .pushing ∧ switching.line.mode = .run ∧ switching.resetLow = false := by decide +kernel

/-- A port that is in work. -/
def inWork : State := { up with port := { up.port with state := .inWork false } }

theorem wit_Requests :
    (requestBytes .hearthConfirm).isSome = true ∧ up.portFree ∧ inWork.resetLow = false ∧
    inWork.port.state ≠ .idle ∧ isRequest [1, 0, 0] = true ∧ isRequest [7, 0, 0] = true ∧
    requestOfBytes? [7, 0, 0] = none ∧ ([] : List Byte).length < 3 ∧ ([1, 2] : List Byte).length < 3 ∧
    512 < (halfOf 2 1).toNat ∧ ([] : List Byte).length ≠ (halfOf 0 1).toNat ∧
    ((0 : Byte) = 0 ∨ 0x20 < (0 : Byte).toNat) ∧ ((0x21 : Byte) = 0 ∨ 0x20 < (0x21 : Byte).toNat) := by decide +kernel

/-- A port that holds a response. -/
def answered (restart : Bool) : State :=
  { up with port := { up.port with state := .answered .done, restartPending := restart } }

theorem wit_ResponseFetch :
    (answered false).resetLow = false ∧ (answered false).port.state = .answered .done ∧
    (answered false).port.restartPending = false ∧ (responseBytes .done).length ≤ (responseBytes .done).length ∧
    (responseBytes .done).length - 1 < (responseBytes .done).length ∧ up.portFree ∧
    (answered true).resetLow = false ∧ (answered true).port.state = .answered .done ∧
    (answered true).port.restartPending = true := by decide +kernel

theorem wit_ResponseFetch_none : up.resetLow = false ∧ ∀ r, up.port.state ≠ .answered r := ⟨by decide +kernel, nofun⟩

theorem wit_SetParameter :
    up.portFree ∧ up.phase ≠ .unstarted ∧ down.portFree ∧ down.phase = .unstarted ∧
    ((0 : Byte).toNat = 0 ∨ 50 < (0 : Byte).toNat) ∧ ((51 : Byte).toNat = 0 ∨ 50 < (51 : Byte).toNat) ∧
    paramRow? (1 : Byte).toNat = some ⟨1, 8, 1⟩ ∧ paramRow? (50 : Byte).toNat = some ⟨60, 7200, 600⟩ ∧
    (1 ≤ (1 : Word).toNat ∧ (1 : Word).toNat ≤ 8) ∧ (1 ≤ (8 : Word).toNat ∧ (8 : Word).toNat ≤ 8) ∧
    (0 : Word).toNat < 1 ∧ 8 < (9 : Word).toNat ∧ cfg.values.length = 50 := by decide +kernel

theorem wit_Start :
    up.portFree ∧ up.phase ≠ .unstarted ∧ down.portFree ∧ down.phase = .unstarted ∧
    firstFailure down.startTests = none ∧
    firstFailure ({ down with params := down.params.put 2 1 }).startTests = some (.range, 2) := by decide +kernel

theorem wit_Start_invariants : down.poolDistinct ∧ down.haltAgrees := by
  unfold State.poolDistinct State.haltAgrees; decide +kernel

theorem wit_Reconciliation :
    let s := { down with phase := .reconciling 0, pins := { down.pins with estop := true } }
    s.phase = .reconciling 0 ∧ s.pins.estop = true ∧ s.params.others ≠ [] ∧
    ({ s with params := s.params.put 2 2 }).params.others = [] := by decide +kernel

/-- Every row of R38's table, a zone left in a fault, and two zones that both restart in motion. -/
theorem wit_Reconciliation_zones :
    let lies (k : Nat) (s : State) : State := pinned k { rest := true } s
    let s := lies 1 (on (flt .landingConflict none) (zn .occupied [5]) (zn .occupied [6]) (zn .free))
    let t := lies 1 (on {} (zn .unknown) (zn .unknown) (zn .occupied))
    let m := lies 1 (lies 2 (on (zn .sending [5]) (zn .sending [6]) (zn .receiving) (zn .reserved)))
    let e := pinned 0 { landing := true } (on { zn .expecting with expected := some 5 } {} {} {})
    (s.zone 0).state = .fault ∧ (s.zone 1).state = .occupied ∧ (s.zone 1).occ ≠ [] ∧ s.presence 1 = true ∧
    (s.zone 2).occ ≠ [] ∧ s.presence 2 = false ∧ (s.zone 3).state = .free ∧ s.presence 3 = false ∧
    (t.zone 1).state = .unknown ∧ t.presence 1 = true ∧ t.presence 2 = false ∧ (t.zone 3).occ = [] ∧
    (m.zone 1).state = .sending ∧ m.presence 1 = true ∧ (m.zone 2).state = .receiving ∧ m.presence 2 = true ∧
    (m.zone 0).state = .sending ∧ m.presence 0 = false ∧ m.presence 3 = false ∧ m.inc.state = .idle ∧
    2 < min m.zones.length m.params.zoneCount ∧ (e.zone 0).state = .expecting ∧ (e.zone 0).expected = some 5 ∧
    (e.zonePins 0).landing = true ∧ (e.zone 0).landing = true ∧ e.record? 5 = some (slab 5) ∧
    ((pinned 0 {} e).zonePins 0).landing = false ∧ e.port.reports.length < 32 ∧ e.isDoor 0 = false ∧
    ((s.reconcileZone 0).zone 0).fault = some ⟨.landingConflict, none⟩ := by decide +kernel

theorem wit_WatchSlots :
    let s := { up with store := { watch1 := some 8, watch2 := some 9 } }
    up.portFree ∧ s.portFree ∧ ((3 : Byte) ≠ 1 ∧ (3 : Byte) ≠ 2) ∧ ((0 : Byte) ≠ 1 ∧ (0 : Byte) ≠ 2) ∧
    (9 : Word) ≠ 0 ∧ s.store.watch2 = some (9 : Word).toNat ∧ s.store.watch1 = some (8 : Word).toNat ∧
    s.store.watch2 ≠ some (1 : Word).toNat ∧ s.store.watch1 ≠ some (1 : Word).toNat ∧
    (answered true).port.state = .answered .done ∧ (answered true).port.restartPending = true ∧
    (answered true).resetLow = false := by decide +kernel

theorem wit_WatchSlots_kept :
    ∃ t, exec .hearthConfirm up = .next t ∧ (∀ slot id, Instr.hearthConfirm ≠ .watchSet slot id) ∧
      (∀ slot, Instr.hearthConfirm ≠ .watchClear slot) ∧ Instr.hearthConfirm ≠ .powerOn ∧
      (∀ strike, Instr.hearthConfirm ≠ .resetPinLow strike) ∧
      ∀ clocked strike, Instr.hearthConfirm ≠ .responseFetch clocked strike :=
  ⟨_, rfl, nofun, nofun, nofun, nofun, nofun⟩

theorem wit_WatchSlots_fetch :
    ∃ t, exec (.responseFetch 3 .between) up = .next t ∧ up.port.restartPending = false := ⟨_, rfl, rfl⟩

/-- The station with a number of queued reports. -/
def queued (n : Nat) : State := { up with port := { up.port with reports := List.replicate n told } }

theorem wit_Alert :
    up.portFree ∧ (7 : Byte).toNat ≤ 7 ∧ 7 < (8 : Byte).toNat ∧ up.port.alertLevel = 7 ∧
    (queued 31).port.reports.length < 32 ∧ 32 ≤ (queued 32).port.reports.length := by decide +kernel

theorem wit_Reads :
    let s := on {} {} {} {}
    s.portFree ∧ ((5 : Byte).toNat ≤ 5 ∧ (47 : Byte).toNat ≤ 47) ∧ 5 < (6 : Byte).toNat ∧ 47 < (48 : Byte).toNat ∧
    s.record? (5 : Word).toNat = some (slab 5) ∧ s.record? (7 : Word).toNat = none ∧ (1 : Byte).toNat = 1 ∧
    (2 : Byte).toNat = 2 ∧ (23 : Byte).toNat ≤ 23 ∧ 23 < (24 : Byte).toNat ∧
    ((0 : Byte).toNat ≠ 1 ∧ (0 : Byte).toNat ≠ 2) ∧ ((3 : Byte).toNat ≠ 1 ∧ (3 : Byte).toNat ≠ 2) ∧
    s.hearth.fill ≤ s.params.hearthLength ∧ s.params.hearthLength ≤ 65535 ∧
    (bankOf 24).length ≤ 24 ∧ (-2147483648 : Int) ≤ -2147483648 ∧ (2147483647 : Int) ≤ 2147483647 := by decide +kernel

theorem wit_ReadEvents :
    (queued 32).portFree ∧ (1 ≤ (1 : Byte).toNat ∧ (1 : Byte).toNat ≤ 32) ∧
    (1 ≤ (32 : Byte).toNat ∧ (32 : Byte).toNat ≤ 32) ∧ (0 : Byte).toNat = 0 ∧ 32 < (33 : Byte).toNat := by
  decide +kernel

/-! ## Witnesses: slabs, zones and lists by command -/

theorem wit_Hold :
    let s := on {} {} {} {}
    let running := { s with out := { s.out with state := .runningOut, slab := 5 } }
    let coming := { s with store := { pool := [{ slab 5 with status := .incoming }] } }
    s.portFree ∧ s.record? (7 : Word).toNat = none ∧ s.record? (5 : Word).toNat = some (slab 5) ∧
    (slab 5).status ≠ .incoming ∧ ¬(s.out.state = .runningOut ∧ s.out.slab = (5 : Word).toNat) ∧
    running.portFree ∧ running.record? (5 : Word).toNat = some (slab 5) ∧
    (running.out.state = .runningOut ∧ running.out.slab = (5 : Word).toNat) ∧ coming.portFree ∧
    (coming.record? (5 : Word).toNat).map (fun r => r.status) = some .incoming := by decide +kernel

/-- A pool of twelve records. -/
def twelve : List Record := (List.range 12).map fun k => slab (k + 20)

theorem wit_Expect :
    let s := on {} {} {} {}
    let full := { s with store := { pool := twelve } }
    let busy := on (zn .unknown) {} {} {}
    let wait := on { zn .expecting with expected := some 5 } {} {} {}
    s.portFree ∧ down.portFree ∧ down.started = false ∧ s.started = true ∧ s.zones.length ≤ (4 : Byte).toNat ∧
    slabRecord? (block 0) s.now s.params.heavyKg none .expected = none ∧
    (slabRecord? (block 9) s.now s.params.heavyKg none .expected).map (fun r => r.id) = some 9 ∧
    (0 : Byte).toNat < s.zones.length ∧ (3 : Byte).toNat < s.zones.length ∧ (s.zone 3).landing = false ∧
    (busy.zone 0).state ≠ .free ∧ (s.zone 0).landing = true ∧ (s.zone 0).state = .free ∧
    (∃ x ∈ s.store.pool, x.id = 5) ∧ 90 ∈ (hot [90] s).hearth.ids ∧ (∀ x ∈ s.store.pool, x.id ≠ 9) ∧
    9 ∉ s.hearth.ids ∧ s.store.pool.length < 12 ∧ full.portFree ∧ 12 ≤ full.store.pool.length ∧
    (∀ x ∈ full.store.pool, x.id ≠ 9) ∧ (full.zone 0).landing = true ∧ (full.zone 0).state = .free ∧
    (s.zone 0).state ≠ .expecting ∧ wait.portFree ∧ wait.started = true ∧ (wait.zone 0).state = .expecting ∧
    (wait.zone 0).expected = some 5 := by decide +kernel

theorem wit_Identify :
    let s := on (zn .unknown) (zn .unknown) (zn .unknown) {}
    let full := { s with store := { pool := twelve } }
    let rec? (b : SlabBlock) := slabRecord? b s.now s.params.heavyKg (some (signedStamp s.now, s.params.stationNo)) .live
    s.portFree ∧ down.portFree ∧ down.started = false ∧ s.started = true ∧ s.zones.length ≤ (4 : Byte).toNat ∧
    rec? (block 0) = none ∧ (rec? (block 9)).map (fun r => (r.id, r.dest)) = some (9, 2) ∧
    (3 : Byte).toNat < s.zones.length ∧ (s.zone 3).state ≠ .unknown ∧ (s.zone 0).state = .unknown ∧
    (∃ x ∈ s.store.pool, x.id = 5) ∧ (∀ x ∈ s.store.pool, x.id ≠ 9) ∧ 9 ∉ s.hearth.ids ∧
    s.store.pool.length < 12 ∧ 12 ≤ full.store.pool.length ∧ full.portFree ∧ (∀ x ∈ full.store.pool, x.id ≠ 9) ∧
    s.isDoor 0 = false ∧ s.isDoor 2 = true ∧ (s.zone 2).state = .unknown ∧
    (rec? { block 9 with dest := 3 }).map (fun r => (r.id, r.dest)) = some (9, 3) ∧ 3 ≠ s.params.stationNo ∧
    2 = s.params.stationNo ∧ s.door.find? 9 = none := by decide +kernel

/-- A slab identified at the door with a track: within POS_TOL of its target, just out of it, and as a first of a pair. -/
theorem wit_Identify_tracked :
    let r := slabRecord? (block 9) up.now up.params.heavyKg (some (signedStamp up.now, 2)) .live
    let t (role : Role) (count : Int) : Track := { id := 9, role := role, count := count }
    let s (x : Track) : State := { on {} {} (zn .unknown) {} with door := { up.door with tracks := [x] } }
    (s (t .single 0)).door.find? 9 = some (t .single 0) ∧ r.map (fun x => (x.id, x.dest, x.nominal)) = some (9, 2, 3000) ∧
    roleTarget cfg .single 3000 = some 7500 ∧ roleTarget cfg .pairFirst 3000 = some 9150 ∧
    (trackPosition cfg (t .single 7540) : Int) - 7500 = cfg.posTol ∧
    (trackPosition cfg (t .single 7541) : Int) - 7500 = cfg.posTol + 1 ∧
    (trackPosition cfg (t .pairFirst 9150) : Int) - 9150 = 0 ∧ (s (t .single 7540)).isDoor 2 = true ∧
    ((s (t .single 7540)).zone 2).state = .unknown := by decide +kernel

theorem wit_ClearFault :
    let s := on (flt .moveTimeout none) (flt .slabDisplaced none [5]) {} {}
    let seen := pinned 0 { rest := true } s
    let lies := pinned 1 { rest := true } s
    let pair := pinned 0 { rest := true } (on (flt .moveTimeout (some 1) [5]) (flt .moveTimeout (some 0)) {} {})
    let both := pinned 1 { landing := true } { pair with zones := pair.zones.map fun z => { z with landing := true } }
    s.portFree ∧ down.portFree ∧ down.started = false ∧ s.started = true ∧ s.zones.length ≤ (4 : Byte).toNat ∧
    (3 : Byte).toNat < s.zones.length ∧ (s.zone 3).state ≠ .fault ∧ (s.zone 0).state = .fault ∧
    (s.zone 0).fault = some ⟨.moveTimeout, none⟩ ∧ s.isDoor 0 = false ∧ (s.zone 0).occ = [] ∧
    s.presence 0 = false ∧ seen.portFree ∧ (seen.zone 0).occ = [] ∧ seen.presence 0 = true ∧
    (s.zone 1).occ ≠ [] ∧ s.presence 1 = false ∧ (s.zone 1).fault = some ⟨.slabDisplaced, none⟩ ∧
    lies.presence 1 = true ∧ pair.portFree ∧ pair.started = true ∧ (pair.zone 0).state = .fault ∧
    (pair.zone 1).state = .fault ∧ (pair.zone 0).fault = some ⟨.moveTimeout, some 1⟩ ∧
    (pair.zone 1).fault = some ⟨.moveTimeout, some 0⟩ ∧ pair.isDoor 0 = false ∧ pair.isDoor 1 = false ∧
    (pair.zone 0).occ ≠ [] ∧ (pair.zone 1).occ = [] ∧ pair.presence 0 = true ∧ (pair.zone 1).landing = false ∧
    both.portFree ∧ (both.zone 1).landing = true ∧ (both.zonePins 1).landing = true ∧ both.presence 0 = true ∧
    (both.zone 0).fault = some ⟨.moveTimeout, some 1⟩ ∧ (both.zone 1).fault = some ⟨.moveTimeout, some 0⟩ := by
  decide +kernel

/-- The door zone: refused by its kinds, without a slab, with a passing one, and with one or two destined here, tracked
within POS_TOL or just out of it, or not tracked, a first of a pair with its wait run out, running and absent. -/
theorem wit_ClearFault_door :
    let door (kind : FaultKind) (occ : List Nat) (tr : List Track) : State :=
      pinned 2 { rest := true } { on {} {} (flt kind none occ) {} with door := { substate := .pairWait, tracks := tr } }
    let t (id : Nat) (role : Role) (count : Int) : Track := { id := id, role := role, count := count }
    let pass := { door .driveStall [5] [] with store := { pool := [{ slab 5 with dest := 3 }] } }
    let wait (s : State) (x : Timer) : State := { s with door := { s.door with pairTimer := x } }
    let two := door .driveStall [5, 6] [t 5 .pairFirst 9150, t 6 .pairSecond 5850]
    (door .doorFault [5] []).pins.doorShut = false ∧ (door .barFault [5] []).pins.barHome = false ∧
    (cyc .limbo).cycle.state = .limbo ∧ (door .driveStall [] []).isDoor 2 = true ∧
    ((door .driveStall [] []).zone 2).occ = [] ∧ (door .driveStall [] []).presence 2 = true ∧
    (pinned 2 {} (door .driveStall [5] [])).presence 2 = false ∧ pass.destinedHere 5 = false ∧
    (door .driveStall [5] []).record? 5 = some (slab 5) ∧ (slab 5).dest = cfg.stationNo ∧
    (door .positionFault [5] []).door.find? 5 = none ∧
    (door .positionFault [5] [t 5 .single 7541]).door.find? 5 = some (t 5 .single 7541) ∧
    (wait (door .driveStall [5] [t 5 .pairFirst 9150]) (some 0)).door.pairTimer = some 0 ∧
    (wait (door .driveStall [5] [t 5 .pairFirst 9150]) (some 7)).door.pairTimer ≠ some 0 ∧
    two.door.find? 5 = some (t 5 .pairFirst 9150) ∧ two.door.find? 6 = some (t 6 .pairSecond 5850) ∧
    roleTarget cfg .pairSecond 3000 = some 5850 ∧ (two.zone 2).occ = [5, 6] ∧ two.presence 2 = true ∧ two.portFree ∧
    two.started = true := by decide +kernel

/-- A pair of one move with the door zone: a passing slab in it, and the door zone without a slab. -/
theorem wit_ClearFault_pair :
    let out := pinned 2 { rest := true } { on {} {} (flt .moveTimeout (some 3) [5]) (flt .moveTimeout (some 2)) with
      store := { pool := [{ slab 5 with dest := 3 }] } }
    let into := pinned 1 { rest := true } (on {} (flt .moveTimeout (some 2) [5]) (flt .moveTimeout (some 1)) {})
    out.isDoor 2 = true ∧ (∀ id ∈ (out.zone 2).occ, out.destinedHere id = false) ∧ out.isDoor 3 = false ∧
    (out.zone 2).fault = some ⟨.moveTimeout, some 3⟩ ∧ (out.zone 3).fault = some ⟨.moveTimeout, some 2⟩ ∧
    out.portFree ∧ out.started = true ∧ 2 + 1 < out.zones.length ∧ into.isDoor 1 = false ∧
    (into.zone 2).occ = [] ∧ into.presence 1 = true ∧ into.presence 2 = false ∧
    (into.zone 1).fault = some ⟨.moveTimeout, some 2⟩ ∧ (into.zone 2).fault = some ⟨.moveTimeout, some 1⟩ := by
  decide +kernel

theorem wit_ListAppend :
    up.portFree ∧ ([] : List EntryBlock).length = 0 ∧ 24 < (List.replicate 25 (eblock 1)).length ∧
    ((0 : Byte).toNat ≠ 1 ∧ (0 : Byte).toNat ≠ 2) ∧
    (∃ b ∈ [{ eblock 1 with permit := 2 }], b.id = 0 ∨ 1 < b.permit.toNat) ∧
    (∃ b ∈ [eblock 0], b.id = 0 ∨ 1 < b.permit.toNat) ∧ 1 ≤ [eblock 1].length ∧
    ((List.range 24).map fun k => eblock (k + 1)).length ≤ 24 ∧ Bank.ofCode? (1 : Byte).toNat = some .active ∧
    Bank.ofCode? (2 : Byte).toNat = some .pending ∧
    ∀ x ∈ (List.range 24).map fun k => eblock (k + 1), x.id ≠ 0 ∧ x.permit.toNat ≤ 1 := by decide +kernel

/-- The station with a bank of entries in ACTIVE. -/
def listed (es : List ListEntry) : State := { on {} {} {} {} with lists := { up.lists with active := es } }

theorem wit_HeadOperations :
    up.portFree ∧ up.lists.active = [] ∧ (listed [entry 5, entry 6]).portFree ∧
    (listed [entry 5, entry 6]).lists.active = [entry 5, entry 6] ∧ (eblock 0).id = 0 ∧
    1 < ({ eblock 1 with permit := 2 }).permit.toNat ∧ (eblock 5).id ≠ 0 ∧ (eblock 5).permit.toNat ≤ 1 ∧
    (∃ x ∈ (listed [entry 5]).lists.active, x.id = (eblock 5).id.toNat) ∧
    (∀ x ∈ (listed (bankOf 24)).lists.active, x.id ≠ (eblock 5).id.toNat) ∧
    24 ≤ (listed (bankOf 24)).lists.active.length ∧ (listed (bankOf 23)).lists.active.length < 24 ∧
    ((listed [entry 5]).lists.active.map fun e => e.id).Nodup ∧ (listed [entry 5]).lists.active ≠ [] ∧
    (listed [entry 5]).lists.active.head? = some (entry 5) ∧ up.lists.active.head? ≠ some (entry 5) ∧
    (listed [entry 5]).record? (entry 5).id = some (slab 5) := by decide +kernel

theorem wit_Switch :
    let wait := { up with lists := { up.lists with deferred := true } }
    let pair := { up with door := { up.door with substate := .pairWait } }
    let big := { listed [entry 5] with lists := { active := [entry 5], pendingBank := bankOf 24 } }
    let fits := { listed [entry 5] with lists := { active := [entry 5], pendingBank := bankOf 23 } }
    wait.portFree ∧ wait.lists.deferred = true ∧ wait.cycle.holdsLists = false ∧ wait.door.substate ≠ .pairWait ∧
    pair.portFree ∧ pair.lists.deferred = false ∧ pair.door.substate = .pairWait ∧ (cyc .pushing).portFree ∧
    (cyc .pushing).cycle.holdsLists = true ∧ up.portFree ∧ up.lists.deferred = false ∧
    up.cycle.holdsLists = false ∧ up.door.substate ≠ .pairWait ∧ (cyc .pushing).cycle.committing = false ∧
    24 < big.carryOver.length + big.lists.pendingBank.length ∧
    fits.carryOver.length + fits.lists.pendingBank.length ≤ 24 := by decide +kernel

theorem wit_Switch_bounded : (listed [entry 5]).listsBounded := by unfold State.listsBounded; decide +kernel

/-! ## Witnesses: charging, the hearth and halts -/

theorem wit_PushDone :
    (∀ e ∈ (listed [entry 6]).lists.active, e.id ≠ 5) ∧ (∃ e ∈ (listed [entry 5]).lists.active, e.id = 5) ∧
    (∀ c ∈ [cyc .pushing, cyc .limbo, cyc .idle], c.phase ≠ .unstarted ∧ c.params.hasFurnace = true ∧
      c.pins.pushDone = false) ∧ (cyc .pushing).cycle.state = .pushing ∧ (cyc .pushing).line.mode = .run ∧
    (cyc .limbo).cycle.state = .limbo ∧ (cyc .limbo).cycle.latePush = false ∧
    ({ cyc .limbo with cycle := { (cyc .limbo).cycle with latePush := true } }).cycle.latePush = true ∧
    (inMode .halted (cyc .pushing)).line.mode ≠ .run := by decide +kernel

theorem wit_HostAnswersLimbo :
    let s := cyc .limbo
    let home := { s with pins := { s.pins with barHome := true } }
    down.portFree ∧ down.started = false ∧ up.portFree ∧ up.started = true ∧ up.cycle.state ≠ .limbo ∧ s.portFree ∧
    s.started = true ∧ s.cycle.state = .limbo ∧ s.pins.barHome = false ∧ s.params.doorZone < s.zones.length ∧
    home.portFree ∧ home.pins.barHome = true ∧ home.cycle.state = .limbo := by decide +kernel

theorem wit_HearthRestore :
    let s := hot [90] up
    let get (s : State) (b : RestoreBlock) := restorePosition? b s.now s.hearth.nextNumber
    let tight := { s with hearth := { s.hearth with fill := 38401 } }
    let exact := { s with hearth := { s.hearth with fill := 38400 } }
    s.portFree ∧ get s { restore 91 with pitch := 949 } = none ∧ (get s (restore 91)).isSome = true ∧
    (cyc .pushing).editsRefused = true ∧ (cyc .pushing).portFree ∧ (get (cyc .pushing) (restore 91)).isSome = true ∧
    s.editsRefused = false ∧ (hot (List.range 48) up).editsRefused = false ∧
    48 ≤ (hot (List.range 48) up).hearth.positions.length ∧ s.hearth.positions.length < 48 ∧
    (get s (restore 90)).isSome = true ∧ s.restoreDuplicate [90] = true ∧ s.restoreDuplicate [91] = false ∧
    tight.editsRefused = false ∧ tight.hearth.hasRoom tight.params 1600 20000 = false ∧ tight.started = true ∧
    exact.hearth.hasRoom exact.params 1600 20000 = true ∧ (hot [90] down).portFree ∧
    (hot [90] down).started = false ∧ (hot [90] down).editsRefused = false := by decide +kernel

theorem wit_HearthEdits :
    let s := hot [90, 91] up
    s.portFree ∧ s.hearth.positions.length ≤ (2 : Byte).toNat ∧ 47 < (48 : Byte).toNat ∧
    s.hearth.positions[(1 : Byte).toNat]? = some (pos 91) ∧ (1 : Byte).toNat ≤ 47 ∧ s.editsRefused = false ∧
    (hot [90] (cyc .pushing)).editsRefused = true ∧ (hot [90] (cyc .pushing)).portFree ∧
    (hot [90] (cyc .pushing)).hearth.positions[(0 : Byte).toNat]? = some (pos 90) ∧
    (hot (List.range 48) up).hearth.positions[(47 : Byte).toNat]? = some (pos 47) ∧
    (hot [90] down).portFree ∧ (hot [90] down).editsRefused = false ∧ (hot [90] down).started = false := by
  decide +kernel

theorem wit_Discharge :
    let s := hot [90, 91] up
    let last (st sec : Word) (now : Word) :=
      { s with pace := { s.pace with last := some (st, sec), ring := [600] }, clk := { s.clk with seconds := now } }
    down.phase = .unstarted ∧ s.phase ≠ .unstarted ∧ ({ down with phase := .reconciling 3 }).phase ≠ .unstarted ∧
    s.params.hasFurnace = true ∧ s.hearth.positions = [pos 90, pos 91] ∧ s.cycle.committing = false ∧ up.hearth.positions = [] ∧ s.port.reports.length < 32 ∧ up.pace.last = none ∧
    s.params.stopThreshold + 1 < (((last 0 0 1202).clk.seconds - 0).toNat) ∧
    (last 0 0 1201).pace.last = some (0, 0) ∧ ((last 0 0 1201).clk.seconds - 0).toNat ≤ s.params.stopThreshold + 1 ∧
    ((1200999 : Word) - 0).toNat / 1000 ≤ s.params.stopThreshold ∧
    s.params.stopThreshold < ((1201000 : Word) - 0).toNat / 1000 ∧
    (∀ x ∈ (last 0 0 1201).pace.ring, x ≤ 7200) := by decide +kernel

theorem wit_HostAndEstop :
    let stop := { up with pins := { up.pins with estop := true }, halt := ⟨[2], { estop := true }⟩ }
    let held := inMode .halted { up with halt := ⟨[3], {}⟩ }
    let two := inMode .halted { up with halt := ⟨[1, 3], {}⟩ }
    down.portFree ∧ down.started = false ∧ up.portFree ∧ up.started = true ∧ up.pins.estop = false ∧
    stop.started = true ∧ stop.pins.estop = true ∧ up.params.isMember (0 : Byte).toNat = false ∧
    up.params.isMember (4 : Byte).toNat = false ∧ up.params.isMember (2 : Byte).toNat = true ∧
    (2 : Byte).toNat = up.params.stationNo ∧ up.params.isMember (3 : Byte).toNat = true ∧
    (3 : Byte).toNat ≠ up.params.stationNo ∧ (3 : Byte).toNat ∉ up.halt.holders ∧ held.portFree ∧
    held.started = true ∧ (3 : Byte).toNat ∈ held.halt.holders ∧ held.line.mode ≠ .run ∧ two.portFree ∧
    (3 : Byte).toNat ∈ two.halt.holders ∧ two.line.mode = .halted := by decide +kernel

/-- The clauses of causeAdded and causeRemoved: the first cause and a later one; the last cause and another one. -/
theorem wit_Causes :
    up.halt.causes.any = false ∧ up.params.stationNo ∉ up.halt.holders ∧ up.line.mode = .run ∧
    up.line.mayTransmit = true ∧ (inMode .isolated up).line.mayTransmit = false ∧
    (let s := inMode .halted { up with halt := ⟨[2], { host := true }⟩ }
     s.halt.causes.any = true ∧ (s.halt.causes.put .host false).any = false ∧
     s.params.stationNo ∈ s.halt.holders ∧ s.line.mode = .halted) ∧
    (let s := inMode .halted { up with halt := ⟨[2, 3], { host := true, estop := true }⟩ }
     s.halt.causes.any = true ∧ (s.halt.causes.put .host false).any = true) := by decide +kernel

/-! ## Witnesses: timers -/

theorem wit_SecondsTick :
    let s := { on {} {} {} {} with
      clk := { up.clk with seconds := 100 }
      store := { pool := [{ slab 5 with cls := .hot, classStamp := -1 }, { slab 6 with cls := .hot }] } }
    down.started = false ∧ s.started = true ∧ (s.store.pool.map fun r => r.id).Nodup ∧ 0 < s.params.hotLimit ∧
    (s.params.hotLimit : Int) < (101 : Int) - (slab 6).classStamp := by decide +kernel

theorem wit_MoveTimeout :
    let s := on { going [5] with timer := some 0 } (zn .reserved) {} {}
    let t := on { zn .sending [5] with timer := some 0 } { zn .receiving with timer := some 0 } {} {}
    let one := on {} { moved [5] with timer := some 0 } {} {}
    let run (passed : Bool) := on {} { running [5] with timer := some 0, restPassed := passed }
      { zn .reserved with timer := some 0 } {}
    (∀ x ∈ [s, t], x.started = true ∧ x.motionExpired 0 = true ∧ x.crossingOut 0 = false ∧ x.crossingIn 0 = false ∧
      0 + 1 < x.zones.length) ∧ t.motionExpired 1 = true ∧ t.crossingOut 1 = false ∧
    ((s.zone 0).state = .occupied ∧ (s.zone 0).departing = true) ∧
    (s.zone 1).state = .reserved ∧ (t.zone 0).state = .sending ∧ (t.zone 1).state = .receiving ∧
    (t.zone 1).handleMoved = false ∧ one.started = true ∧ one.motionExpired 1 = true ∧ one.crossingIn 1 = false ∧
    (one.zone 1).state = .receiving ∧ (one.zone 1).handleMoved = true ∧ one.runOn 1 = false ∧
    (∀ b ∈ [true, false], (run b).motionExpired 1 = true ∧ (run b).crossingIn 1 = false ∧
      (run b).motionExpired 2 = true ∧ (run b).runOn 1 = true ∧ ((run b).zone 1).restPassed = b) ∧
    up.started = true ∧ (up.zone 0).timer ≠ some 0 ∧ (inMode .halted s).serveClass 0 = .held := by decide +kernel

/-- A run-through that X's fault has left behind in zone 3: X is gone, and slab 5 has come to lie in zone 2. -/
def leftBehind (y : Zone) : State := on {} {} y { zn .reserved with claim := some 8, timer := some 0 }

theorem wit_MoveTimeout_left :
    let s := leftBehind (zn .occupied [5])
    s.started = true ∧ 2 + 1 < s.zones.length ∧ s.motionExpired (2 + 1) = true ∧ (s.zone (2 + 1)).state = .reserved ∧
    (s.zone (2 + 1)).handleMoved = false ∧ s.senderMoves (2 + 1) = false := by decide +kernel

/-- R26: the timer of such a zone is not frozen by a HELD slab that is not in its move, and its report names slab 8. -/
theorem test_leftBehind_names_its_slab :
    (match exec (.moveTimeout 3) { leftBehind (zn .occupied [5]) with
        store := { pool := [{ slab 5 with holds := { host := true } }] } } with
     | .next t => (t.zone 3).state == .fault && t.port.reports.any fun r => r.kind == .moveTimeout && r.slab == some 8
     | _ => false) = true := by decide +kernel

theorem wit_HandoverTimers :
    let out := { on {} {} {} { zn .sending [5] with timer := some 0 } with out := { state := .runningOut, slab := 5, tag := 1 } }
    let inc := { on { zn .reserved with timer := some 0 } {} {} {} with inc := { state := .reserved, slab := 6, tag := 1 } }
    let offer := { on {} {} {} (zn .occupied [5]) with out := { state := .offered, slab := 5, tag := 1, answer := some 0 } }
    out.started = true ∧ out.crossingOut out.exitZone = true ∧ out.motionExpired out.exitZone = true ∧
    out.crossingIn out.exitZone = false ∧ inc.started = true ∧ inc.inc.state ≠ .idle ∧ inc.motionExpired 0 = true ∧
    inc.runOn 0 = false ∧ offer.started = true ∧ offer.out.state = .offered ∧ offer.out.answer = some 0 ∧
    offer.line.mayTransmit = true ∧ (inMode .isolated offer).line.mayTransmit = false ∧
    (inMode .isolated offer).out.state = .offered ∧ up.crossingOut up.exitZone = false ∧
    (inMode .halted out).motionExpired out.exitZone = false ∧ up.inc.state = .idle ∧
    (up.out.state ≠ .offered ∨ up.out.answer ≠ some 0) := by decide +kernel

theorem wit_DoorTimers :
    let enter := { on {} (going [5]) (zn .reserved) {} with door := { up.door with stallNear := some 0, stallFar := some 0 } }
    let still := { on {} {} (zn .receiving [5]) {} with door := { up.door with stallFar := some 0 } }
    let leave := { on {} {} (running [5]) (zn .reserved) with door := { up.door with stallNear := some 0 } }
    let wait := { on {} {} (zn .occupied [5]) {} with
      door := { substate := .pairWait, pairTimer := some 0, tracks := [{ id := 5, role := .pairFirst, target := some 7500 }] } }
    (∀ x ∈ [enter, still], x.started = true ∧ x.params.hasFurnace = true ∧ x.door.stallFar = some 0 ∧
      1 ≤ x.params.doorZone ∧ x.params.doorZone < x.zones.length ∧ x.crossingIn (x.params.doorZone - 1) = false ∧
      x.runOn (x.params.doorZone - 1) = false) ∧ enter.door.stallNear = some 0 ∧
    enter.entering = true ∧ still.entering = false ∧ still.door.stallNear ≠ some 0 ∧ leave.entering = false ∧
    leave.runOn leave.params.doorZone = true ∧ leave.door.stallNear = some 0 ∧ wait.started = true ∧
    wait.line.mode = .run ∧ wait.door.substate = .pairWait ∧ wait.door.pairTimer = some 0 ∧
    wait.doorEntry.state ≠ .fault ∧ wait.doorEntry.occ = [5] ∧
    wait.door.find? 5 = some { id := 5, role := .pairFirst, target := some 7500 } ∧ up.door.substate ≠ .pairWait := by
  decide +kernel

/-- Slab 5 lying still in the door zone at a count, with its role and the corrections it has had. -/
def lying (count : Int) (role : Role) (n : Nat) : State :=
  { on {} {} (zn .receiving [5]) {} with
    door := { substate := .positioning, phase := .stopping, placing := some 5, still := some 0
              tracks := [{ id := 5, role := role, count := count, counting := true, target := some 7500, corrections := n }] } }

theorem wit_SlabStill :
    let tr (c : Int) (role : Role) (n : Nat) : Track :=
      { id := 5, role := role, count := c, counting := true, target := some 7500, corrections := n }
    let ok (c : Int) (role : Role) (n : Nat) : Prop :=
      let s := lying c role n
      s.started = true ∧ s.params.hasFurnace = true ∧ s.door.phase = .stopping ∧ s.door.suspended = false ∧
      s.door.still = some 0 ∧ s.door.placing = some 5 ∧ s.door.find? 5 = some (tr c role n) ∧
      s.doorEntry.state = .receiving ∧ 1 ≤ s.params.doorZone ∧ s.params.doorZone < s.zones.length ∧
      s.runOn s.params.doorZone = false
    ok 7540 .single 0 ∧ ok 7541 .single 1 ∧ ok 7459 .single 2 ∧ ok 7460 .pairFirst 0 ∧
    (trackError cfg (tr 7540 .single 0)).natAbs ≤ cfg.posTol ∧
    cfg.posTol < (trackError cfg (tr 7541 .single 1)).natAbs ∧
    cfg.posTol < (trackError cfg (tr 7459 .single 2)).natAbs ∧
    (trackError cfg (tr 7460 .pairFirst 0)).natAbs ≤ cfg.posTol ∧ up.door.phase ≠ .stopping := by decide +kernel

/-- A resumed placement of an OCCUPIED door zone: with another slab out of tolerance, and with none. -/
theorem wit_SlabStill_resumed :
    let s (c : Int) : State := { lying 7500 .single 0 with
      zones := [{}, {}, zn .occupied [5, 6], {}]
      door := { (lying 7500 .single 0).door with
        tracks := (lying 7500 .single 0).door.tracks ++ [{ id := 6, role := .single, count := c, target := some 7500 }] } }
    (s 7500).doorEntry.state = .occupied ∧ 1 < (s 7500).doorEntry.occ.length ∧
    (∀ x ∈ (s 7500).door.tracks, x.id ∈ (s 7500).doorEntry.occ → (trackError cfg x).natAbs ≤ cfg.posTol) ∧
    ((s 7541).door.tracks.find? fun y => decide (cfg.posTol < (trackError cfg y).natAbs) &&
      (s 7541).doorEntry.occ.contains y.id).map (fun y => y.id) = some 6 := by decide +kernel

theorem wit_CycleTimeouts :
    let out (st : CycleState) : State := { cyc st with cycle := { (cyc st).cycle with timer := some 0 } }
    let into := { on {} (zn .sending [5]) (zn .receiving) {} with
       cycle := { up.cycle with state := .doorClosing, timer := some 0 } }
    (∀ x ∈ [out .doorOpening, out .pushing, out .retracting, out .doorClosing, into], x.started = true ∧
      x.params.hasFurnace = true ∧ x.line.mode = .run ∧ x.cycle.timer = some 0 ∧ 1 ≤ x.params.doorZone ∧
      x.params.doorZone < x.zones.length ∧ x.runOn (x.params.doorZone - 1) = false ∧
      x.runOn x.params.doorZone = false) ∧ (out .doorClosing).doorMovePartner = none ∧
    into.cycle.state = .doorClosing ∧ into.doorMovePartner = some 1 ∧ into.crossingIn 1 = false ∧ 1 < into.zones.length ∧
    (inMode .halted (out .pushing)).line.mode ≠ .run ∧ up.cycle.timer ≠ some 0 ∧ up.cycle.state ≠ .pushing := by
  decide +kernel

/-! ## Witnesses: field inputs -/

/-- A track of slab 5. -/
def track (count : Int := 0) : Track := { id := 5, role := .single, count := count, counting := true, target := some 7500 }

theorem wit_EntryRise :
    let s := on (going [5]) (zn .reserved) {} {}
    let cross := { on (zn .reserved) {} {} {} with inc := { state := .reserved, slab := 6, tag := 1 } }
    let door := { on {} (going [5]) (zn .reserved) {} with door := { up.door with tracks := [track] } }
    let back := { on {} {} (zn .receiving [5]) {} with
      door := { up.door with phase := .correcting .reverse, placing := some 5, tracks := [track] } }
    let seen := on {} {} {} {}
    let left := on {} (zn .reserved) {} {}
    (∀ x ∈ [s, cross, door, back, seen, left], x.started = true ∧ ∀ k ∈ [0, 1, 2, 3], (x.zonePins k).entry = false ∧
      k < x.zones.length) ∧ ((pinned 0 { entry := true } s).zonePins 0).entry = true ∧ down.started = false ∧
    s.zones.length ≤ (4 : ZoneIx).val ∧ s.isDoor 1 = false ∧ (s.zone 1).state = .reserved ∧
    seen.isDoor 2 = true ∧ (seen.zone 2).state = .free ∧ (seen.zone 2).landing = false ∧ seen.door.placing = none ∧
    s.pins.zones.length = 6 ∧ s.crossingIn 1 = false ∧ (s.zone 0).departing = true ∧ cross.isDoor 0 = false ∧ cross.inc.state ≠ .idle ∧
    (cross.zone 0).state = .reserved ∧ s.isDoor 3 = false ∧ (s.zone 3).state = .free ∧ (s.zone 3).landing = false ∧
    ((s.zone 0).state ≠ .reserved ∧ (s.zone 0).state ≠ .free) ∧ (cross.zone 1).landing = false ∧
    door.isDoor 2 = true ∧ (door.zone 1).departing = true ∧ (door.zone 2).state = .reserved ∧
    door.lastIn 1 = some 5 ∧ door.door.find? 5 = some track ∧ back.isDoor 2 = true ∧
    (back.zone (2 - 1)).departing = false ∧ back.door.placing = some 5 ∧
    (left.zone 1).state = .reserved ∧ left.crossingIn 1 = false ∧ left.senderMoves 1 = false := by decide +kernel

theorem wit_EntryFall :
    let high (k : Nat) (x : State) := pinned k { entry := true } x
    let s := high 3 (on {} {} (zn .sending [5]) (zn .receiving))
    let cross := high 0 { on (zn .receiving) {} {} {} with
      params := cfg.put 7 1
      inc := { state := .receiving, slab := 6, tag := 1 }
      store := { pool := [{ slab 6 with status := .incoming }] } }
    let door := high 2 { on {} (zn .sending [5]) (zn .receiving) {} with
      door := { up.door with tracks := [track], riseCount := some 0, nearCount := 3051 } }
    let gone := high 1 (on {} (zn .unknown) {} {})
    (s.zonePins 3).entry = true ∧ (up.zonePins 3).entry = false ∧ s.started = true ∧ s.isDoor 3 = false ∧
    s.crossingIn 3 = false ∧ (s.zone 3).state = .receiving ∧ (s.zone 3).handleMoved = false ∧
    (s.zone 2).state = .sending ∧ s.lastIn 2 = some 5 ∧ 3 + 1 = s.zones.length ∧
    (cross.zonePins 0).entry = true ∧ cross.inc.state = .receiving ∧ (cross.zone 0).state = .receiving ∧
    (cross.record? 6).isSome = true ∧ cross.isApproach 0 = true ∧ (door.zonePins 2).entry = true ∧
    door.isDoor 2 = true ∧ door.crossingIn 2 = false ∧ (door.zone 2).state = .receiving ∧
    (door.zone 2).handleMoved = false ∧ (door.zone 1).state = .sending ∧ door.lastIn 1 = some 5 ∧
    door.record? 5 = some (slab 5) ∧ door.door.riseCount = some 0 ∧ (gone.zonePins 1).entry = true ∧
    (gone.zone 1).state = .unknown ∧ (gone.zone 1).landing = false ∧ gone.crossingIn 1 = false ∧
    (gone.zonePins 1).rest = false ∧ (high 1 up).crossingIn 1 = false ∧ (up.zone 1).state ≠ .receiving ∧
    (up.zone 1).state ≠ .unknown ∧ up.zones.length ≤ (4 : ZoneIx).val := by decide +kernel

/-- The other states of an entry sensor's fall: a fall while the handle has moved, in an UNKNOWN landing zone, and in a
crossing that is only reserved; an arrival at a transfer station; and no measurement under way. -/
theorem wit_EntryFall_rest :
    let past := on {} (moved [5]) {} {}
    let land := on (zn .unknown) {} {} {}
    let cross := { on (zn .reserved) {} {} {} with inc := { state := .reserved, slab := 6, tag := 1 } }
    let transfer := { on (zn .receiving) {} {} {} with
      params := cfg.put 5 0
      inc := { state := .receiving, slab := 6, tag := 1 }
      store := { pool := [{ slab 6 with status := .incoming, dest := 3 }] } }
    past.crossingIn 1 = false ∧ (past.zone 1).state = .receiving ∧ (past.zone 1).handleMoved = true ∧
    (land.zone 0).state = .unknown ∧ (land.zone 0).landing = true ∧ cross.crossingIn 0 = true ∧
    cross.inc.state ≠ .receiving ∧ transfer.started = true ∧ transfer.inc.state = .receiving ∧
    (transfer.zone 0).state = .receiving ∧ transfer.isApproach 0 = false ∧ transfer.isDoor 0 = false ∧
    ((pinned 0 { entry := true } transfer).zonePins 0).entry = true ∧ up.door.riseCount = none := by decide +kernel

/-- The trailing edge into the door zone of a slab placed there, short of its stopping position and at it, and of a passing
slab, whose next zone is FREE or not. -/
theorem wit_EntryFall_door :
    let base (count : Int) (z : Zone) := pinned 2 { entry := true } { on {} (zn .sending [5]) (zn .receiving) z with
      door := { up.door with tracks := [track count], substate := .positioning, placing := some 5, phase := .entry } }
    let pass (z : Zone) := { base 3000 z with
      store := { pool := [{ slab 5 with dest := 3 }] }
      door := { up.door with tracks := [{ track 3000 with role := .passing, target := none }] } }
    let near := min ((3000 : Int).toNat * 1000 / cfg.encPpm) cfg.doorLength + cfg.runout
    let far := min ((20000 : Int).toNat * 1000 / cfg.encPpm) cfg.doorLength + cfg.runout
    (∀ x ∈ [base 3000 {}, base 20000 {}, pass {}, pass (zn .unknown)], x.started = true ∧ (x.zonePins 2).entry = true ∧
      x.isDoor 2 = true ∧ x.crossingIn 2 = false ∧ (x.zone 2).state = .receiving ∧ (x.zone 2).handleMoved = false ∧
      (x.zone 1).state = .sending ∧ x.lastIn 1 = some 5 ∧ x.door.suspended = false) ∧
    near < (track 0).target.getD 0 ∧ (track 0).target.getD 0 ≤ far ∧ (pass {}).door.placing ≠ some 5 ∧
    ((pass {}).zone 3).state = .free ∧ ((pass (zn .unknown)).zone 3).state ≠ .free ∧
    (pass {}).onward 5 2 = true ∧ (pass {}).pairClass 5 2 ≠ .held := by decide +kernel

/-- Run-on granted as the slab enters: zone 2 is FREE, the slab goes to station 3, and the door zone is zone 3. -/
theorem wit_EntryFall_runOn :
    let s := pinned 1 { entry := true } { on (zn .sending [5]) (zn .receiving) {} {} with
      params := cfg.put 7 3, store := { pool := [{ slab 5 with dest := 3 }] } }
    1 + 1 < s.zones.length ∧ s.isApproach 1 = false ∧ s.isDoor 1 = false ∧ s.crossingIn 1 = false ∧
    (s.zone 1).state = .receiving ∧ (s.zone 1).handleMoved = false ∧ (s.zone 0).state = .sending ∧
    s.lastIn 0 = some 5 ∧ (s.zone (1 + 1)).state = .free ∧ s.onward 5 1 = true ∧ s.pairClass 5 1 ≠ .held ∧
    s.entryHigh (1 + 1) = false ∧ (s.zonePins 1).entry = true ∧ s.started = true := by decide +kernel

theorem wit_RestRise :
    let s := on {} { moved [5] with passage := some 0 } {} {}
    let run := on {} (running [5]) (zn .reserved) {}
    let left := on {} (moved [5]) (zn .reserved) {}
    let hang := on (zn .sending [5]) (zn .receiving) {} {}
    let cross := { on (zn .receiving) {} {} {} with inc := { state := .receiving, slab := 6, tag := 1 } }
    (∀ x ∈ [s, run, hang, up], (x.zonePins 1).rest = false ∧ x.started = true ∧ 1 < x.zones.length ∧
      x.pins.zones.length = 6) ∧ (s.zone 1).state = .receiving ∧ s.isDoor 1 = false ∧
    (s.zone 1).handleMoved = true ∧ s.runOn 1 = false ∧ (s.zone 1).passage = some 0 ∧
    cross.crossingIn 0 = true ∧ (cross.zone 0).state = .receiving ∧ (cross.zone 0).handleMoved = false ∧
    cross.isDoor 0 = false ∧ (cross.zonePins 0).rest = false ∧ cross.started = true ∧ hang.crossingIn 0 = false ∧
    (lying 7500 .single 0).isDoor 2 = true ∧ ((lying 7500 .single 0).zone 2).state = .receiving ∧
    (lying 7500 .single 0).door.placing ≠ none ∧
    run.runOn 1 = true ∧ left.runOn 1 = false ∧ (left.zone 1).handleMoved = true ∧ (hang.zone 1).handleMoved = false ∧ hang.crossingIn 1 = false ∧
    (hang.zone 0).state = .sending ∧ (up.zone 1).state = .free ∧
    (up.zone 1).landing = false ∧ (left.zone 1).passage = none ∧
    ((on {} (zn .receiving) {} {}).zone (1 - 1)).state ≠ .sending ∧
    ((on {} (zn .receiving) {} {}).zone 1).handleMoved = false ∧
    ((on (zn .occupied [5]) {} {} {}).zone 0).state ≠ .receiving ∧
    ((on (zn .occupied [5]) {} {} {}).zone 0).state ≠ .free ∧ up.zones.length ≤ (5 : ZoneIx).val := by
  decide +kernel

/-- R25: a reservation that another slab's move has left behind is no run-on; the slab rests at the edge. -/
theorem test_leftReservation :
    (match exec (.restSensorRise 1 9) (on {} (moved [5]) (zn .reserved) {}) with
     | .next t => ((t.zone 1).state, (t.zone 2).state)
     | _ => (.fault, .fault)) = (.occupied, .reserved) := by decide +kernel

theorem wit_RestFall :
    let high (k : Nat) (x : State) := pinned k { rest := true } x
    let out := high 3 { on {} {} {} (zn .sending [5]) with out := { state := .runningOut, slab := 5, tag := 1 } }
    let s := high 1 (on {} (zn .occupied [5]) {} {})
    let gone := high 1 (on {} (zn .unknown) {} {})
    let land := high 0 (on (zn .occupied [5]) {} {} {})
    let bad := high 1 (on {} (flt .moveTimeout none) {} {})
    out.started = true ∧ (out.zonePins 3).rest = true ∧ out.crossingOut 3 = true ∧ (s.zonePins 1).rest = true ∧
    (s.zone 1).state = .occupied ∧ (s.zone 1).departing = false ∧ (s.zone 1).landing = false ∧
    (s.zone 1).occ = [5] ∧ s.isDoor 1 = false ∧ s.inc.state = .idle ∧ (gone.zonePins 1).rest = true ∧
    (gone.zone 1).state = .unknown ∧ (gone.zone 1).landing = false ∧ (gone.zonePins 1).entry = false ∧
    (land.zonePins 0).rest = true ∧ (land.zone 0).landing = true ∧ land.crossingOut 0 = false ∧
    (bad.zone 1).state = .fault ∧ bad.crossingOut 1 = false ∧
    (∀ z ∈ [zn .free, zn .reserved, moved [5], zn .sending [5]],
      ((on {} z {} {}).zone 1).state ∉ [ZoneState.occupied, .unknown] ∧ (on {} z {} {}).crossingOut 1 = false) ∧
    ((on {} (going [5]) {} {}).zone 1).departing = true ∧ ((on {} (zn .occupied) {} {}).zone 1).occ = [] ∧
    (lying 7500 .single 0).isDoor 2 = true ∧ (lying 7500 .single 0).door.substate ≠ .empty ∧
    ((pinned 1 { entry := true, rest := true } (on {} (zn .unknown) {} {})).zonePins 1).entry = true := by
  decide +kernel

theorem wit_LandingRise :
    let wait := on { zn .expecting with expected := some 5 } {} {} {}
    let sent := on (zn .sending [5]) (zn .receiving) {} {}
    let recv := { on {} {} {} {} with zones := [zn .sending [5], { zn .receiving with landing := true }, {}, {}] }
    let dep := { on {} {} {} {} with zones := [going [5], { zn .reserved with landing := true }, {}, {}] }
    let cross := { on (zn .reserved) {} {} {} with inc := { state := .reserved, slab := 6, tag := 1 } }
    (∀ x ∈ [wait, sent, recv, dep, cross, up], x.started = true ∧ ∀ k ∈ [0, 1], (x.zonePins k).landing = false ∧
      k < x.zones.length) ∧ (wait.zone 0).landing = true ∧ (wait.zone 0).state = .expecting ∧
    (wait.zone 0).expected = some 5 ∧ wait.record? 5 = some (slab 5) ∧ wait.port.reports.length < 32 ∧
    ((on {} {} {} {}).zone 0).landing = true ∧ ((on {} {} {} {}).zone 0).state = .free ∧
    (sent.zone 0).landing = true ∧ (sent.zone 0).state = .sending ∧ sent.crossingIn 0 = false ∧
    sent.halt.causes.any = false ∧ sent.params.stationNo ∉ sent.halt.holders ∧ sent.line.mode = .run ∧
    (recv.zone 1).landing = true ∧ (recv.zone 1).state = .receiving ∧ (recv.zone 1).handleMoved = false ∧
    (recv.zone 0).state = .sending ∧ (dep.zone 1).state = .reserved ∧ (dep.zone 0).departing = true ∧
    cross.crossingIn 0 = true ∧ (cross.zone 0).landing = true ∧ (cross.zone 0).state = .reserved ∧
    (up.zone 1).landing = false ∧ ((on (moved [5]) {} {} {}).zone 0).handleMoved = true ∧
    ((pinned 0 { landing := true } up).zonePins 0).landing = true := by decide +kernel

theorem wit_LandingFall :
    let high (x : State) := pinned 0 { landing := true } x
    let lie := high (on (zn .occupied [5]) {} {} {})
    let gone := high (on (zn .unknown) {} {} {})
    let run := high (on (moved [5]) {} {} {})
    (∀ x ∈ [lie, gone, run], x.started = true ∧ (x.zonePins 0).landing = true ∧ 0 < x.zones.length ∧
      (x.zone 0).landing = true) ∧ (lie.zone 0).state = .occupied ∧ (lie.zone 0).departing = false ∧
    (lie.zone 0).occ = [5] ∧ (gone.zone 0).state = .unknown ∧ (run.zone 0).state = .receiving ∧
    (run.zone 0).handleMoved = true ∧ run.runOn 0 = false ∧ run.halt.causes.any = false ∧ run.inc.state = .idle ∧
    ((high (on (going [5]) {} {} {})).zone 0).departing = true ∧
    (high (on (running [5]) (zn .reserved) {} {})).runOn 0 = true ∧
    ((high (on (running [5]) (zn .reserved) {} {})).zone 0).state = .receiving ∧
    ((high (on {} {} {} {})).zone 0).state ∈ [ZoneState.free, .expecting, .reserved, .sending, .fault] ∧
    (up.zone 1).landing = false := by decide +kernel

theorem wit_Encoder :
    let base := { on {} {} (zn .receiving [5]) {} with door := { up.door with
      substate := .positioning, placing := some 5, phase := .approach, tracks := [track 7399], stallNear := some 3 } }
    let placed := { on {} {} (zn .occupied [5]) {} with door := { up.door with
      substate := .positioned, tracks := [{ track 7540 with placedAt := some 7500 }] } }
    down.phase = .unstarted ∧ ({ down with phase := .reconciling 3 }).params.hasFurnace = true ∧
    base.params.hasFurnace = true ∧ base.started = true ∧ 1 ≤ base.params.doorZone ∧ base.door.stallNear ≠ none ∧
    ((base.countPulse .near .forward).door.placed?).isSome = true ∧ base.door.suspended = false ∧
    (∀ t ∈ (base.countPulse .near .forward).door.placed?, stopReached base.params t base.door.phase = true) ∧
    base.door.substate = .positioning ∧ placed.started = true ∧ placed.params.hasFurnace = true ∧
    1 ≤ placed.params.doorZone ∧ ((placed.countPulse .near .forward).testStop.movedTrack).isSome = true ∧
    placed.params.doorZone < placed.zones.length ∧ (track 0).counting = true ∧
    ({ track 0 with counting := false }).counting = false := by decide +kernel

theorem wit_CycleInputs :
    let low (st : CycleState) : State := hot [90] (cyc st)
    let high (st : CycleState) : State := { low st with
      pins := { up.pins with doorOpen := true, doorShut := true, barHome := true, furnPermit := true } }
    (∀ st ∈ [CycleState.doorOpening, .pushing, .retracting, .doorClosing, .idle, .readyCheck, .hearthWait],
      (low st).phase ≠ .unstarted ∧ (low st).params.hasFurnace = true ∧ (low st).pins.doorOpen = false ∧
      (low st).pins.doorShut = false ∧ (low st).pins.barHome = false ∧ (low st).pins.furnPermit = false ∧
      (high st).pins.doorOpen = true ∧ (high st).pins.furnPermit = true ∧ (high st).phase ≠ .unstarted ∧
      (low st).line.mode = .run ∧ 1 ≤ (high st).params.doorZone ∧ (high st).params.doorZone < (high st).zones.length) ∧
    (inMode .halted (cyc .doorOpening)).line.mode ≠ .run ∧ (low .idle).cycle.state ≠ .doorOpening ∧
    (low .retracting).doorEntry.state = .occupied ∧ (low .pushing).cycle.state ≠ .retracting ∧
    ({ low .retracting with zones := [{}, {}, zn .occupied, {}] }).doorEntry.occ = [] ∧
    ({ low .retracting with zones := [{}, {}, flt .barFault none, {}] }).doorEntry.state = .fault ∧
    down.phase = .unstarted ∧ ({ down with phase := .reconciling 3 }).phase ≠ .unstarted ∧
    (high .retracting).cycle.state ∉ [CycleState.doorOpening, .pushing, .readyCheck, .hearthWait] := by decide +kernel

/-- The readiness tests in order, each failing alone at the edge of its range, and all holding at equality. -/
theorem wit_CycleInputs_ready :
    let s (n fill load : Nat) : State := { hot [90] (cyc .readyCheck) with
      hearth := { positions := [pos 90], count := n, fill := fill, load := load, nextNumber := 91, integrity := .intact } }
    let held := { s 1 1600 20000 with store := { pool := [{ slab 5 with holds := { host := true } }] } }
    ({ s 1 1600 20000 with hearth := {} }).hearth.integrity ≠ .intact ∧ (s 1 1600 20000).hearth.integrity = .intact ∧
    (∃ r ∈ held.chargeRecords, r.holds.any = true) ∧ (∀ r ∈ (s 1 1600 20000).chargeRecords, r.holds.any = false) ∧
    48 ≤ (s 48 1600 20000).hearth.count ∧ (s 47 1600 20000).hearth.count < 48 ∧ cfg.hearthLength = 40000 ∧
    (s 1 38400 20000).hearth.fill + 1600 = cfg.hearthLength ∧ cfg.hearthLength < (s 1 38401 20000).hearth.fill + 1600 ∧
    (s 1 1600 (cfg.loadCapacityKg - 20000)).hearth.load + 20000 ≤ cfg.loadCapacityKg ∧
    cfg.loadCapacityKg < (s 1 1600 (cfg.loadCapacityKg - 19999)).hearth.load + 20000 ∧
    (s 1 1600 20000).cycle.state = .readyCheck ∧ (cyc .hearthWait).cycle.state = .hearthWait ∧
    (inMode .halted (s 1 1600 20000)).line.mode ≠ .run := by decide +kernel

/-! ## Witnesses: the yard line -/

/-- The station in LISTENING at a stage, with a tally. -/
def listening (st : Stage) (n : Nat) : State :=
  { up with line := { up.line with mode := .listening, stage := st, tally := n, silence := none, windowTimer := some 0 } }

theorem wit_LineTimers :
    let ends := { up with creep := some 0, line := { up.line with holdoff := some 0, period := some 0 } }
    let first := { ends with line := { ends.line with slots := { declare := some ⟨(), 3⟩ } } }
    (listening .listen 0).started = true ∧ (listening .listen 0).line.mode = .listening ∧
    (listening .listen 0).line.stage = .listen ∧ up.line.mode ≠ .listening ∧
    (listening .listen 0).line.windowTimer = some 0 ∧ up.line.windowTimer ≠ some 0 ∧
    (listening .count 2).line.stage = .count ∧ (listening .count 2).line.tally ≤ up.params.errThreshold ∧
    up.params.errThreshold < (listening .count 3).line.tally ∧ (listening .count 3).params.others ≠ [] ∧
    ({ listening .count 3 with params := cfg.put 2 2 }).params.others = [] ∧ ends.started = true ∧
    ends.creep = some 0 ∧ up.creep ≠ some 0 ∧ ends.line.holdoff = some 0 ∧ up.line.holdoff ≠ some 0 ∧
    ends.line.declaring = true ∧ ends.line.mayTransmit = true ∧ ends.line.period = some 0 ∧
    first.line.slots.declare ≠ none ∧ (inMode .isolated up).line.mayTransmit = false ∧ down.started = false ∧
    (sending .declare (.declare decl) up).line.attempt ≠ none ∧ up.line.attempt = none ∧
    ({ up.line with lineErrors := 65534 }).lineErrors < 65535 ∧
    ({ up.line with lineErrors := 65535 }).lineErrors = 65535 := by decide +kernel

theorem wit_Silence :
    let out := { up with line := { up.line with silence := some 0 } }
    let p (st : PeerState) (age : Nat) : Peer := { station := 1, state := st, age := some age, lastSeq := some 7 }
    let s (st : PeerState) (age : Nat) : State := { up with line := { up.line with peers := [p st age] } }
    out.started = true ∧ out.line.mode = .run ∧ out.line.silence = some 0 ∧ (inMode .halted out).line.mode = .halted ∧
    (inMode .isolated out).line.mode ≠ .run ∧ (inMode .isolated out).line.mode ≠ .halted ∧
    up.line.silence ≠ some 0 ∧ (s .heard 1000).line.peer? (1 : Byte).toNat = some (p .heard 1000) ∧
    (s .qualified 1000).line.peer? (1 : Byte).toNat = some (p .qualified 1000) ∧ 1000 ≤ (p .heard 1000).age.getD 0 ∧
    (p .heard 999).age.getD 0 < 1000 ∧ (s .heard 999).line.peer? (1 : Byte).toNat = some (p .heard 999) ∧
    (s .absent 0).line.peer? (1 : Byte).toNat = some (p .absent 0) ∧ (p .absent 0).state ≠ .heard ∧
    up.line.peer? (2 : Byte).toNat = none := by decide +kernel

theorem wit_Declare :
    up.started = true ∧ up.line.attempt = none ∧ up.line.mode = .run ∧ up.params.isMember (3 : Byte).toNat = true ∧
    (3 : Byte).toNat ≠ up.params.stationNo ∧ up.params.downstream = some (3 : Byte).toNat ∧
    up.params.downstream ≠ some (1 : Byte).toNat ∧ up.out.state ≠ .runningOut ∧
    (up.line.peer? (3 : Byte).toNat).map (fun p => (p.state, p.lastSeq, p.consecutive)) = some (.heard, some 7, 2) ∧
    (8 : Byte) = 7 + 1 ∧ (9 : Byte) ≠ 7 + 1 ∧ decl.holding = false ∧ ({ decl with holding := true }).holding = true ∧
    (up.line.peer? (1 : Byte).toNat).map (fun p => p.state) = some .qualified ∧ down.started = false ∧
    (sending .declare (.declare decl) up).line.attempt ≠ none := by decide +kernel

/-- The downstream neighbour's DECLARE names the slab that runs out to it, or another; and one is heard in ISOLATED. -/
theorem wit_Declare_crossing :
    let out := { on {} {} {} (zn .sending [5]) with out := { state := .runningOut, slab := 5, tag := 1 } }
    let lost := { on {} {} {} (flt .handoverBroken none [5]) with out := out.out }
    let quiet (i : Isolation) := { up with line := { up.line with mode := .isolated, isolation := some i } }
    out.params.downstream = some (3 : Byte).toNat ∧ out.out.state = .runningOut ∧
    ({ decl with entryId := 5 }).entryId = BitVec.ofNat 32 out.out.slab ∧
    decl.entryId ≠ BitVec.ofNat 32 out.out.slab ∧ out.zones ≠ [] ∧ (out.zone out.exitZone).state ≠ .fault ∧
    (lost.zone lost.exitZone).state = .fault ∧ out.line.mode ≠ .isolated ∧
    (decl.holding = true ↔ (3 : Byte).toNat ∈ out.halt.holders) ∧ (quiet .silence).line.isolation = some .silence ∧
    (quiet .duplicate).line.mode = .isolated ∧ (quiet .duplicate).line.isolation ≠ some .silence ∧
    ({ out with line := { out.line with peers := [{ station := 3 }] } }).line.peer? (3 : Byte).toNat =
      some { station := 3 } := by decide +kernel

theorem wit_HaltFrames :
    let held := inMode .halted { up with halt := ⟨[3], {}⟩ }
    let quiet := { up with line := { up.line with mode := .isolated, isolation := some .silence } }
    up.started = true ∧ up.line.attempt = none ∧ up.line.mode = .run ∧ up.params.isMember (3 : Byte).toNat = true ∧
    (3 : Byte).toNat ≠ up.params.stationNo ∧ (3 : Byte).toNat ∉ up.halt.holders ∧ held.line.mode = .halted ∧
    (3 : Byte).toNat ∈ held.halt.holders ∧ up.params.others ≠ [] ∧ up.params.isMember (4 : Byte).toNat = false ∧
    up.params.isMember (0 : Byte).toNat = false ∧ (4 : Byte).toNat ≠ up.params.stationNo ∧
    (2 : Byte).toNat = up.params.stationNo ∧ quiet.started = true ∧ quiet.line.attempt = none ∧
    quiet.line.mode = .isolated ∧ quiet.line.isolation = some .silence ∧ quiet.params.others ≠ [] ∧
    (∀ x ∈ [inMode .listening up, inMode .isolated up], x.started = true ∧ x.line.attempt = none ∧
      (x.line.mode = .listening ∨ (x.line.mode = .isolated ∧ x.line.isolation ≠ some .silence)) ∧
      (3 : Byte).toNat ∉ x.halt.holders ∧ x.params.isMember (3 : Byte).toNat = true) ∧
    (3 : Byte).toNat ∈ (inMode .listening held).halt.holders := by decide +kernel

theorem wit_Offer :
    let id := (form 9).id.toNat
    let s := on {} {} {} {}
    s.started = true ∧ s.line.attempt = none ∧ s.line.mode = .run ∧ (2 : Byte).toNat = s.params.stationNo ∧
    s.params.upstream = some 1 ∧ (1 : Byte).toNat = 1 ∧ s.line.qualified 1 = true ∧
    ({ s with line := { s.line with peers := [] } }).line.qualified 1 = false ∧
    (on (flt .moveTimeout none) {} {} {}).declineReason id = some .zoneFault ∧
    ((on { zoneClass := .held } {} {} {}).zone 0).zoneClass = .held ∧ (s.zone 0).state = .free ∧
    (s.zone 0).zoneClass ≠ .held ∧ s.inc.state = .idle ∧ ((on (zn .unknown) {} {} {}).zone 0).state ≠ .free ∧
    (∃ r ∈ s.store.pool, r.id = (form 5).id.toNat) ∧ (∀ r ∈ s.store.pool, r.id ≠ id) ∧ id ∉ s.hearth.ids ∧
    s.store.pool.length < 12 ∧ 12 ≤ ({ s with store := { pool := twelve } }).store.pool.length ∧
    (∀ r ∈ twelve, r.id ≠ id) ∧ s.declineReason id = none ∧ 0 < s.zones.length ∧
    s.params.isMember (3 : Byte).toNat = true ∧ (3 : Byte).toNat ≠ s.params.stationNo ∧
    s.params.upstream ≠ some (3 : Byte).toNat ∧ (1 : Byte).toNat ≠ s.params.stationNo ∧
    (inMode .listening s).declineReason id = some .notRun ∧ (inMode .listening s).line.mode = .listening ∧
    (inMode .listening s).line.mayTransmit = true ∧ s.params.isMember (1 : Byte).toNat = true ∧
    (listening .listen 0).line.mayTransmit = false ∧ (inMode .isolated s).line.isolation ≠ some .silence ∧
    ({ up with line := { up.line with mode := .isolated, isolation := some .silence } }).line.attempt = none := by
  decide +kernel

theorem wit_HandoverAnswers :
    let offer := { on {} {} {} (zn .occupied [5]) with out := { state := .offered, slab := 5, tag := 1 } }
    let told := { offer with out := { offer.out with lastDecline := some (5, .busy) } }
    let out := { on {} {} {} (zn .sending [5]) with out := { state := .runningOut, slab := 5, tag := 1 } }
    let lost := { on {} {} {} (flt .handoverBroken none [5]) with out := out.out }
    let inc := { on (zn .reserved) {} {} {} with inc := { state := .reserved, slab := 6, tag := 1 } }
    (∀ x ∈ [offer, told, out, lost, inc], x.started = true ∧ x.line.attempt = none ∧ x.line.mode = .run ∧
      (2 : Byte).toNat = x.params.stationNo ∧ x.params.downstream = some (3 : Byte).toNat ∧
      x.params.upstream = some (1 : Byte).toNat ∧ x.zones ≠ []) ∧ offer.out.state = .offered ∧ offer.out.tag = 1 ∧
    BitVec.ofNat 32 offer.out.slab = (5 : Word) ∧ offer.out.lastDecline ≠ some (5, .busy) ∧
    told.out.lastDecline = some (told.out.slab, .busy) ∧ out.out.state = .runningOut ∧
    (out.zone out.exitZone).state ≠ .fault ∧ (lost.zone lost.exitZone).state = .fault ∧ offer.out.tag ≠ 2 ∧
    BitVec.ofNat 32 offer.out.slab ≠ (6 : Word) ∧ out.out.state ≠ .offered ∧ offer.out.state ≠ .runningOut ∧
    out.inc.state ≠ .reserved ∧ (3 : Byte).toNat ≠ out.params.stationNo ∧
    out.params.isMember (3 : Byte).toNat = true ∧ out.params.downstream ≠ some (1 : Byte).toNat ∧
    inc.params.upstream ≠ some (3 : Byte).toNat ∧ inc.inc.state = .reserved ∧ inc.inc.tag = 1 ∧
    inc.inc.slab = (6 : Word).toNat ∧ inc.inc.tag ≠ 2 ∧
    (∀ x ∈ [offer, out, inc], (inMode .listening x).line.mode = .listening ∧ (inMode .listening x).started = true ∧
      (inMode .isolated x).line.mode = .isolated ∧ (inMode .isolated x).line.isolation ≠ some .silence ∧
      (inMode .listening x).out = x.out ∧ (inMode .listening x).inc = x.inc) := by decide +kernel

/-- The station with a waiting OFFER. -/
def offering : State := { up with line := { up.line with slots := { offer := some ⟨.offer ⟨1, .run, form 5⟩, 3⟩ } } }

theorem wit_Attempts :
    let again := { up with line := { up.line with backoff := true } }
    let s := sending .offer (.offer ⟨1, .run, form 5⟩) up
    let last := { s with line := { s.line with consecutive := 15 } }
    let open_ := { s with out := { s.out with state := .offered, slab := 5, tag := 1 } }
    (59 < if up.line.backoff then 60 + up.params.stationNo * 24 else 60) ∧
    (107 < if again.line.backoff then 60 + again.params.stationNo * 24 else 60) ∧
    (if again.line.backoff then 60 + again.params.stationNo * 24 else 60) ≤ 108 ∧
    (if up.line.backoff then 60 + up.params.stationNo * 24 else 60) ≤ 60 ∧ up.started = true ∧
    up.line.attempt = none ∧ up.line.mayTransmit = true ∧ (inMode .isolated up).line.mayTransmit = false ∧
    offering.line.slots.fill? .offer = some 3 ∧ offering.line.slots.body? offering.declaration .offer =
      some (.offer ⟨1, .run, form 5⟩) ∧ offering.line.slots.lineHalt = none ∧
    s.line.attempt = some ⟨.offer, ⟨2, 3, 9, .offer ⟨1, .run, form 5⟩⟩, 4, false⟩ ∧ s.line.consecutive < 15 ∧
    s.line.slots.fill? .offer = none ∧ 15 ≤ last.line.consecutive ∧ open_.out.state = .offered ∧ open_.out.tag = 1 ∧
    (sending .declare (.declare decl) up).line.attempt.map (fun a => a.frame.body) = some (.declare decl) := by
  decide +kernel

theorem wit_Attempts_empty : ∀ k, up.line.slots.fill? k = none := by intro k; cases k <;> rfl

theorem wit_Attempts_first :
    ∀ k' f', k' ≠ SlotKind.offer → offering.line.slots.fill? k' = some f' → 3 < f' := by
  intro k' f' h e; cases k' <;> first | exact absurd rfl h | exact nomatch e

theorem wit_Attempts_withdrawn :
    ({ up with line := { up.line with attempt := some ⟨.offer, ⟨2, 3, 9, .offer ⟨1, .run, form 5⟩⟩, 4, true⟩ } }).line.attempt.map
      Attempt.withdrawn = some true := by decide +kernel

/-- Two slots of one fill time, a collision that finds its slot filled again, and an OFFER that completes withdrawn. -/
theorem wit_Attempts_ties :
    let two := { up with line := { up.line with
      slots := { accept := some ⟨.accept 1 5 .run, 3⟩, withdraw := some ⟨.withdraw 1 5, 3⟩ } } }
    let again := { sending .offer (.offer ⟨1, .run, form 5⟩) up with line := { (sending .offer (.offer ⟨1, .run, form 5⟩) up).line
      with slots := { offer := some ⟨.offer ⟨2, .run, form 6⟩, 7⟩ } } }
    two.line.slots.fill? .accept = some 3 ∧ two.line.slots.fill? .withdraw = some 3 ∧
    SlotKind.withdraw.ctorIdx < SlotKind.accept.ctorIdx ∧ again.line.slots.fill? .offer ≠ none ∧
    again.line.mayTransmit = true ∧ again.line.attempt.map (fun a => a.withdrawn) = some false := by decide +kernel

/-! ## Witnesses: what every step keeps to -/

theorem wit_Reports :
    (queued 31).port.reports.length < 32 ∧ (queued 32).port.reports = List.replicate 31 told ++ [told] ∧
    32 ≤ (queued 32).port.reports.length ∧ (-2147483648 : Int) ≤ -2147483648 ∧ (2147483647 : Int) ≤ 2147483647 := by
  decide +kernel

theorem wit_Outputs :
    (inMode .halted up).line.mode ≠ .run ∧ (up.zone 0).state ∈ [ZoneState.free, .expecting, .unknown, .fault] ∧
    ((on {} (zn .occupied [5]) {} {}).zone 1).departing = false ∧ (on {} (going [5]) {} {}).line.mode = .run ∧
    ((on {} (going [5]) {} {}).zone 1).occ.getLast? = some 5 ∧
    (on {} (going [5]) {} {}).record? 5 = some (slab 5) := by decide +kernel

/-- The drives of a move's zones: SENDING, RESERVED with and without its sender and its slab, RECEIVING after stage 3, and
both crossings. -/
theorem wit_Outputs_moves :
    let move := on (zn .sending [5]) { zn .receiving with claim := some 5 } {} {}
    let past := on {} (moved [5]) {} {}
    let cross := { on (zn .reserved) {} {} {} with inc := { state := .reserved, slab := 6, tag := 1 } }
    let out := { on {} {} {} (zn .sending [5]) with out := { state := .runningOut, slab := 5, tag := 1 } }
    let left := leftBehind (zn .occupied [5])
    (∀ x ∈ [move, past, cross, out, left], x.line.mode = .run) ∧ (move.zone 0).state = .sending ∧ 0 ≠ move.exitZone ∧
    (move.zone 0).occ.getLast? = some 5 ∧ (move.zone (0 + 1)).state = .receiving ∧
    (move.zone (0 + 1)).handleMoved = false ∧ (move.zone (0 + 1)).claim = some 5 ∧ 5 ∈ (move.zone 0).occ ∧
    move.serveClass (0 + 1) ≠ .held ∧ (left.zone (2 + 1)).state = .reserved ∧
    (left.zone (2 + 1)).claim = some 8 ∧ 8 ∉ (left.zone 2).occ ∧ (past.zone 1).state = .receiving ∧
    (past.zone 1).handleMoved = true ∧ (past.zone 1).occ.getLast? = some 5 ∧ (cross.zone 0).state = .reserved ∧
    cross.inc.state ≠ .idle ∧ (out.zone out.exitZone).state = .sending ∧ out.out.state = .runningOut := by
  decide +kernel

/-- The door groups in each phase of a placement, and with none. -/
theorem wit_Outputs_groups :
    let s (ph : Phase) := { on {} {} (zn .receiving [5]) {} with
      door := { up.door with placing := some 5, phase := ph, tracks := [track 3000] } }
    (∀ ph ∈ [Phase.idle, .entry, .approach, .stopping, .correcting .forward, .correcting .reverse],
      (s ph).params.hasFurnace = true ∧ (s ph).line.mode = .run ∧ (s ph).doorEntry.state ≠ .fault ∧
      (s ph).door.placing = some 5 ∧ (s ph).door.find? 5 = some (track 3000) ∧ (s ph).door.phase = ph) ∧
    up.door.placing = none ∧ (s .approach).door.find? 6 = none ∧ (s .approach).effClass 5 2 ≠ .held := by decide +kernel

/-- R118: short of the axis the near group carries a single slab, and both carry it where its target spans the axis. -/
theorem test_groups_of_a_single :
    let s := { on {} {} (zn .receiving [5]) {} with
      door := { up.door with placing := some 5, phase := .approach, tracks := [track 3000] } }
    (s.groupDrive .near, s.groupDrive .far) = (some (.creep, .forward), some (.creep, .forward)) := by decide +kernel

/-- Single fit and pair fit hold at equality (R121): the hearth takes 10,000 - 2 × 250 = 9,500 mm, and each half of it
5,000 - 250 - 150 = 4,600 mm beside half the gap of 300. -/
theorem wit_Fit :
    singleFit cfg 9500 = true ∧ singleFit cfg 9501 = false ∧ pairFit cfg 4600 1500 true 4600 1700 true = true ∧
    pairFit cfg 4601 1500 true 4600 1700 true = false ∧ pairFit cfg 4600 1500 true 4600 1701 true = false ∧
    pairFit cfg 4600 1500 true 4600 1500 false = false ∧
    (on {} {} (zn .occupied [5]) {}).doorEntry.occ.head? = some 5 ∧
    (on {} {} (zn .occupied [5]) {}).record? 5 = some (slab 5) := by decide +kernel

/-- A slab at rest in the approach zone before each row of R123, and the state of the door zone that row asks for. -/
theorem wit_Fit_rows :
    let s (dest : Nat) (sub : Substate) (es : List ListEntry) : State :=
      { on {} { zn .occupied [5] with verified := true } (if sub = .pairWait then zn .occupied [6] else {}) {} with
        store := { pool := [{ slab 5 with dest := dest }, slab 6] }, lists := { active := es }
        door := { up.door with substate := sub } }
    let lost := { s 2 .empty [entry 5] with lists := { active := [entry 5], suspect := true } }
    let long := { s 2 .empty [entry 5] with store := { pool := [{ slab 5 with nominal := 9600 }] } }
    (∀ x ∈ [s 3 .empty [], s 3 .pairWait [], s 2 .empty [], s 2 .pairWait [entry 6, entry 5], lost, long],
      x.params.hasFurnace = true ∧ (x.zone x.approach).state = .occupied ∧ (x.zone x.approach).departing = false ∧
      (x.zone x.approach).verified = true ∧ (x.zone x.approach).occ.getLast? = some 5 ∧ (x.record? 5).isSome = true) ∧
    3 ≠ cfg.stationNo ∧ lost.lists.suspect = true ∧ (s 2 .empty []).lists.suspect = false ∧
    ((s 2 .pairWait [entry 6, entry 5]).lists.active[1]? = some (entry 5)) ∧
    (s 2 .pairWait [entry 6, entry 5]).fitsBeside (slab 5) = true ∧
    (s 2 .pairWait [entry 6, entry 5]).fitsBeside { slab 5 with permit := false } = false ∧
    (∀ e ∈ (s 2 .pairWait [entry 6]).lists.active[1]?, e.id ≠ 5) ∧
    (s 2 .empty [entry 5]).lists.active.head? = some (entry 5) ∧ singleFit cfg (slab 5).length = true ∧
    singleFit cfg ({ slab 5 with nominal := 9600 } : Record).length = false ∧
    (s 2 .empty []).activeIndex 5 = none ∧ (s 2 .empty [entry 6, entry 5]).activeIndex 5 = some 1 ∧
    (s 2 .charging []).door.substate ≠ .pairWait ∧ (s 2 .charging []).door.substate ≠ .empty ∧
    (s 2 .empty [entry 5, entry 6]).doorGrantReady 5 .single = true ∧
    (s 2 .pairWait [entry 6, entry 5]).doorGrantReady 5 .pairSecond = true ∧
    (s 2 .pairWait []).doorGrantReady 5 .single = false ∧ (s 2 .empty []).entryHigh 2 = false := by decide +kernel

theorem wit_Fit_measured :
    let s := { on {} {} (zn .receiving) {} with door := { up.door with riseCount := some 3, tracks := [track] } }
    up.door.riseCount = none ∧ s.door.riseCount = some 3 ∧ s.record? 5 = some (slab 5) ∧ (track).target ≠ none := by
  decide +kernel

theorem wit_FollowOn :
    down.started = false ∧ up.started = true ∧ up.line.mode ≠ .listening ∧
    (listening .passed 0).line.mode = .listening ∧ up.lists.deferred = false ∧ up.params.doorZone ≠ 0 := by decide +kernel

/-- A move, a pass through the door zone and a run-on that are ready, at both levels of the next entry sensor, and not. -/
theorem wit_FollowOn_grants :
    let s (dest : Nat) (a c : Zone) : State :=
      { on a {} c {} with store := { pool := [{ slab 5 with dest := dest }] } }
    let seen (k : Nat) (x : State) : State := pinned k { entry := true } x
    let lies : Zone := { zn .occupied [5] with verified := true }
    let run := { s 3 (moved [5]) {} with params := cfg.put 7 3 }
    (s 2 lies {}).moveReady 0 = true ∧ (seen 1 (s 2 lies {})).moveReady 0 = true ∧
    ((s 2 lies {}).zonePins 1).entry = false ∧ ((seen 1 (s 2 lies {})).zonePins 1).entry = true ∧
    (s 3 {} lies).isDoor 2 = true ∧ (s 3 {} lies).passOnReady = true ∧ (s 2 {} {}).moveReady 0 = false ∧
    (s 2 {} {}).isDoor 0 = false ∧ (s 2 {} {}).passOnReady = false ∧ run.isApproach 0 = false ∧ run.isDoor 0 = false ∧
    run.runOnReady 0 = true ∧ (seen 1 run).runOnReady 0 = true ∧ (run.zonePins 1).entry = false ∧
    0 < run.zones.length ∧ up.runOnReady 0 = false := by decide +kernel

/-- An offer that can be made and withdrawn before, during and after its attempt, a crossing and a cycle that can start,
and a station where none can. -/
theorem wit_FollowOn_starts :
    let rest := { on {} {} {} { zn .occupied [5] with verified := true } with
      store := { pool := [{ slab 5 with dest := 3 }] }
      line := { up.line with peers := [{ station := 3, state := .qualified, last := some decl }] } }
    let made (st : OutState) (x : State) : State := { x with out := { state := st, slab := 5, tag := 1 } }
    let held (x : State) : State := { x with store := { pool := [{ slab 5 with holds := { host := true } }] } }
    let att := sending .offer (.offer ⟨1, .run, form 5⟩) up
    let cycle := { on {} {} (zn .occupied [5]) {} with door := { up.door with substate := .positioned } }
    rest.out.state = .idle ∧ rest.line.mode = .run ∧ rest.out.offerBar = false ∧ rest.downstreamReady = true ∧
    rest.offerable.map (fun r => r.id) = some 5 ∧ up.offerable = none ∧ up.downstreamReady = false ∧
    (held (made .offered offering)).withdrawCause = some 1 ∧ (made .offered rest).withdrawCause = none ∧
    (made .offered offering).line.slots.offer ≠ none ∧ (made .offered att).line.slots.offer = none ∧
    att.line.attempt.map (fun a => a.slot) = some .offer ∧ (held (made .cleared rest)).line.attempt = none ∧
    (made .cleared rest).line.mayTransmit = true ∧ (inMode .isolated rest).line.mayTransmit = false ∧
    (made .cleared rest).out.state = .cleared ∧ rest.zones ≠ [] ∧
    MotionClass.max (made .cleared rest).out.downClass ((made .cleared rest).effClass 5 rest.exitZone) ≠ .held ∧
    cycle.params.hasFurnace = true ∧ cycle.cycle.state = .idle ∧ cycle.line.mode = .run ∧
    cycle.door.substate = .positioned ∧ cycle.doorEntry.state = .occupied ∧ cycle.doorEntry.departing = false ∧
    cycle.doorEntry.occ ≠ [] ∧ cycle.doorEntry.occ.Nodup ∧ up.door.substate ≠ .positioned := by decide +kernel

theorem wit_RequestBytes :
    (Instr.hearthRestore (restore 9)).wf = true ∧ (requestBytes (.hearthRestore (restore 9))).isSome = true ∧
    (requestOfBytes? ((requestBytes (.hearthRestore (restore 9))).getD [])).isSome = true := by decide +kernel

theorem wit_FrameBytes :
    destRule (.offer ⟨1, .run, form 9⟩) 1 = true ∧ destRule (.offer ⟨1, .run, form 9⟩) 8 = true ∧
    (⟨1, .run, form 9⟩ : Offer).wf = true ∧ destRule (.declare decl) 0 = true ∧
    (frameOfBytes? (frameBytes ⟨2, 0, 7, .declare decl⟩)).isSome = true ∧
    (∀ e ∈ [(true, RxEvent.char 0x55), (true, .idle 21)], e.1 = true) ∧ 20 < 21 := by decide +kernel

/-- A busy station that meets every invariant, and takes a step. -/
def busy : State :=
  { hot [90] (on (zn .occupied [5]) {} {} {}) with
    lists := { active := [entry 5] }, pending := [.landingInputFall 0] }

theorem wit_Invariants : busy.listsBounded ∧ busy.haltAgrees ∧ busy.poolDistinct ∧ busy.hearthRoomy := by
  unfold State.listsBounded State.haltAgrees State.poolDistinct State.hearthRoomy; decide +kernel

theorem wit_Invariants_step : ∃ t, step busy = .next t := ⟨_, rfl⟩

end Sys2Proof.Tests
end

section
/-! SUPPORT. The halt set's operations, one rule each, and the requests and edges that give or take an own cause
(R90 to R93, R98, R100). -/

namespace Sys2Proof.Machine

/-! ## A request that waits for START -/

/-- Before START such a request is refused MODE. -/
theorem hostCommand_whenStarted_unstarted (bytes : Nat) (s : State) (run : State → State × Response)
    (free : s.portFree) (h : s.started = false) :
    (.next (hostCommand bytes s fun t => whenStarted t run) : Result) = refusedReply s bytes .mode := by
  rw [hostCommand_free bytes s _ free]
  simp [whenStarted, refusedReply, h]

/-- After START it runs on the state that has taken it. -/
theorem hostCommand_whenStarted_started (bytes : Nat) (s : State) (run : State → State × Response)
    (free : s.portFree) (h : s.started = true) :
    (.next (hostCommand bytes s fun t => whenStarted t run) : Result) =
      settledReply s bytes (run (s.taken bytes)).1 (run (s.taken bytes)).2 := by
  rw [hostCommand_free bytes s _ free]
  simp [whenStarted, h]

/-- The first test that fails refuses the request; one that passes leaves it to the rest. -/
theorem tested_cons (s : State) (fails : Bool) (r : Reason) (tests : List (Bool × Reason))
    (run : State → State × Response) :
    tested s ((fails, r) :: tests) run = if fails then (s, .refuse r) else tested s tests run := by
  cases fails <;> rfl

theorem tested_nil (s : State) (run : State → State × Response) : tested s [] run = run s := rfl

/-! ## The halt set -/

theorem mem_insertHolder (m n : Nat) (hs : List Nat) : m ∈ insertHolder n hs ↔ m = n ∨ m ∈ hs := by
  induction hs with
  | nil => simp [insertHolder]
  | cons k ks ih =>
    unfold insertHolder
    split
    · exact List.mem_cons
    · rw [List.mem_cons, ih, List.mem_cons]
      exact or_left_comm

theorem insertHolder_ne_nil (n : Nat) (hs : List Nat) : insertHolder n hs ≠ [] :=
  List.ne_nil_of_mem ((mem_insertHolder n n hs).2 (.inl rfl))

theorem State.addHolder_of_notMem (s : State) (n : Nat) (h : n ∉ s.halt.holders) :
    s.addHolder n = (s.withHolders (insertHolder n s.halt.holders)).report .haltOn
      (value := some (haltValue n (insertHolder n s.halt.holders))) := by
  simp [State.addHolder, h]

theorem State.removeHolder_of_mem (s : State) (n : Nat) (h : n ∈ s.halt.holders) :
    s.removeHolder n = (s.withHolders (s.halt.holders.filter (· != n))).report .haltOff
      (value := some (haltValue n (s.halt.holders.filter (· != n)))) := by
  simp [State.removeHolder, h]

theorem State.removeHolder_of_notMem (s : State) (n : Nat) (h : n ∉ s.halt.holders) : s.removeHolder n = s := by
  simp [State.removeHolder, h]

/-- The mode `m` and the creep period `c` that a state takes on with the halt set `hs` (R93, R98). -/
structure State.ModeFollows (s : State) (hs : List Nat) (m : Mode) (c : Option Nat) : Prop where
  halts : s.line.mode = .run → hs ≠ [] → m = .halted ∧ c = none
  resumes : s.line.mode = .halted → hs = [] →
    m = .run ∧ c = if s.params.resumeCreep = 0 then none else some (s.params.resumeCreep * 1000)
  stands : (s.line.mode = .run → hs = []) → (s.line.mode = .halted → hs ≠ []) → m = s.line.mode ∧ c = s.creep

/-- A new halt set changes the set, and of the rest no more than the mode and the creep period that follow it. -/
theorem State.withHolders_eq (s : State) (hs : List Nat) :
    ∃ m c, s.ModeFollows hs m c ∧
      s.withHolders hs =
        { s with halt := { s.halt with holders := hs }, line := { s.line with mode := m }, creep := c } := by
  unfold State.withHolders State.followHalt
  dsimp only
  split
  next h => exact ⟨.halted, none, ⟨by simp, by simp [h], by simp [h]⟩, rfl⟩
  next hrun =>
    split
    next h => exact ⟨.run, _, ⟨by simp [h], fun _ _ => ⟨rfl, rfl⟩, by simp [h]⟩, rfl⟩
    next hhalted =>
      exact ⟨s.line.mode, s.creep,
        ⟨fun hm hn => absurd ⟨hm, hn⟩ hrun, fun hm hn => absurd ⟨hm, hn⟩ hhalted, fun _ _ => ⟨rfl, rfl⟩⟩, rfl⟩

/-- RUN and HALTED may both transmit, so the slots stay open or closed through the change (R51). -/
theorem State.ModeFollows.mayTransmit {s : State} {hs : List Nat} {m : Mode} {c : Option Nat}
    (h : s.ModeFollows hs m c) : ({ s.line with mode := m } : LineInterface).mayTransmit = s.line.mayTransmit := by
  by_cases hrun : s.line.mode = .run ∧ hs ≠ []
  · simp [LineInterface.mayTransmit, hrun.1, (h.halts hrun.1 hrun.2).1]
  · by_cases hhalted : s.line.mode = .halted ∧ hs = []
    · simp [LineInterface.mayTransmit, hhalted.1, (h.resumes hhalted.1 hhalted.2).1]
    · rw [(h.stands (fun hm => Classical.not_not.1 fun hn => hrun ⟨hm, hn⟩) fun hm hn => hhalted ⟨hm, hn⟩).1]

/-! ## The line halt slot -/

/-- `sl` is what the slots of a line become when the frame `b` is placed in the line halt slot: they hold it where the
station may transmit, and stand otherwise (R51). -/
structure LineInterface.HaltPlaced (l : LineInterface) (b : FrameBody) (sl : Slots) : Prop where
  sent : l.mayTransmit = true → sl.lineHalt.map (fun f => f.content) = some b ∧
    sl = { l.slots with lineHalt := sl.lineHalt }
  discarded : l.mayTransmit = false → sl = l.slots

theorem State.place_lineHalt (s : State) (b : FrameBody) :
    ∃ sl, s.line.HaltPlaced b sl ∧ s.place .lineHalt b = { s with line := { s.line with slots := sl } } := by
  unfold State.place
  split
  next h => exact ⟨_, ⟨fun _ => ⟨rfl, rfl⟩, by simp [h]⟩, rfl⟩
  next h => exact ⟨s.line.slots, ⟨fun ht => absurd ht h, fun _ => rfl⟩, rfl⟩

/-- The halt set changed, reported, and told to the line: how the first own cause and the last one go (R92). -/
theorem State.withHolders_report_place (s : State) (hs : List Nat) (kind : ReportKind) (value : Option Int)
    (b : FrameBody) :
    ∃ m c sl, s.ModeFollows hs m c ∧ s.line.HaltPlaced b sl ∧
      ((s.withHolders hs).report kind (value := value)).place .lineHalt b =
        { s with halt := { s.halt with holders := hs }, line := { s.line with mode := m, slots := sl }, creep := c,
                 port := (s.report kind (value := value)).port } := by
  obtain ⟨m, c, follows, set⟩ := s.withHolders_eq hs
  obtain ⟨sl, placed, put⟩ := ((s.withHolders hs).report kind (value := value)).place_lineHalt b
  rw [put, set]
  rw [State.report_line, set] at placed
  exact ⟨m, c, sl, follows, ⟨fun h => placed.sent (follows.mayTransmit.trans h),
    fun h => placed.discarded (follows.mayTransmit.trans h)⟩, rfl⟩

theorem State.addHolder_place (s : State) (n : Nat) (b : FrameBody) (absent : n ∉ s.halt.holders) :
    ∃ m c sl, s.ModeFollows (insertHolder n s.halt.holders) m c ∧ s.line.HaltPlaced b sl ∧
      (s.addHolder n).place .lineHalt b =
        { s with halt := { s.halt with holders := insertHolder n s.halt.holders },
                 line := { s.line with mode := m, slots := sl }, creep := c,
                 port := (s.report .haltOn (value := some (haltValue n (insertHolder n s.halt.holders)))).port } := by
  rw [s.addHolder_of_notMem n absent]
  exact s.withHolders_report_place _ _ _ b

theorem State.removeHolder_place (s : State) (n : Nat) (b : FrameBody) (member : n ∈ s.halt.holders) :
    ∃ m c sl, s.ModeFollows (s.halt.holders.filter (· != n)) m c ∧ s.line.HaltPlaced b sl ∧
      (s.removeHolder n).place .lineHalt b =
        { s with halt := { s.halt with holders := s.halt.holders.filter (· != n) },
                 line := { s.line with mode := m, slots := sl }, creep := c,
                 port := (s.report .haltOff
                   (value := some (haltValue n (s.halt.holders.filter (· != n))))).port } := by
  rw [s.removeHolder_of_mem n member]
  exact s.withHolders_report_place _ _ _ b

/-! ## Own causes -/

/-- The set of own causes replaced. -/
def State.withCauses (s : State) (cs : Causes) : State := { s with halt := { s.halt with causes := cs } }

@[simp] theorem State.withCauses_causes (s : State) (cs : Causes) : (s.withCauses cs).halt.causes = cs := rfl
@[simp] theorem State.withCauses_holders (s : State) (cs : Causes) :
    (s.withCauses cs).halt.holders = s.halt.holders := rfl

theorem State.addCause_later (s : State) (r : HaltReason) (h : s.halt.causes.any = true) :
    s.addCause r = s.withCauses (s.halt.causes.put r true) := by
  simp [State.addCause, State.withCauses, h]

theorem State.addCause_first (s : State) (r : HaltReason) (h : s.halt.causes.any = false) :
    s.addCause r =
      ((s.withCauses (s.halt.causes.put r true)).addHolder s.params.stationNo).place .lineHalt (.halt r) := by
  simp [State.addCause, State.withCauses, h]

theorem State.removeCause_another (s : State) (r : HaltReason)
    (h : s.halt.causes.any = false ∨ (s.halt.causes.put r false).any = true) :
    s.removeCause r = s.withCauses (s.halt.causes.put r false) := by
  unfold State.removeCause
  rw [if_neg (by rcases h with h | h <;> simp [h])]
  rfl

theorem State.removeCause_last (s : State) (r : HaltReason) (h : s.halt.causes.any = true)
    (last : (s.halt.causes.put r false).any = false) :
    s.removeCause r =
      ((s.withCauses (s.halt.causes.put r false)).removeHolder s.params.stationNo).place .lineHalt .resume := by
  simp [State.removeCause, State.withCauses, h, last]

@[simp] theorem State.place_halt (s : State) (k : SlotKind) (b : FrameBody) : (s.place k b).halt = s.halt := by
  obtain ⟨l, h⟩ := s.place_shape k b
  rw [h]

@[simp] theorem State.withHolders_causes (s : State) (hs : List Nat) :
    (s.withHolders hs).halt.causes = s.halt.causes := by
  obtain ⟨m, c, -, h⟩ := s.withHolders_eq hs
  rw [h]

@[simp] theorem State.addHolder_causes (s : State) (n : Nat) : (s.addHolder n).halt.causes = s.halt.causes := by
  by_cases h : n ∈ s.halt.holders
  · simp [State.addHolder, h]
  · simp [s.addHolder_of_notMem n h]

@[simp] theorem State.removeHolder_causes (s : State) (n : Nat) :
    (s.removeHolder n).halt.causes = s.halt.causes := by
  by_cases h : n ∈ s.halt.holders
  · simp [s.removeHolder_of_mem n h]
  · rw [s.removeHolder_of_notMem n h]

theorem State.addCause_causes (s : State) (r : HaltReason) :
    (s.addCause r).halt.causes = s.halt.causes.put r true := by
  cases h : s.halt.causes.any with
  | true => rw [s.addCause_later r h]; rfl
  | false => simp [s.addCause_first r h]

theorem State.removeCause_causes (s : State) (r : HaltReason) :
    (s.removeCause r).halt.causes = s.halt.causes.put r false := by
  by_cases another : s.halt.causes.any = false ∨ (s.halt.causes.put r false).any = true
  · rw [s.removeCause_another r another]
    rfl
  · obtain ⟨any, last⟩ : s.halt.causes.any = true ∧ (s.halt.causes.put r false).any = false := by
      simpa using another
    simp [s.removeCause_last r any last]

/-- Adding an own cause does what R92 says of the first one and of a later one. -/
theorem State.addCause_causeAdded (s : State) (r : HaltReason) : s.causeAdded r (s.addCause r) := by
  refine ⟨s.addCause_causes r, fun later => ?_, fun first absent => ?_⟩
  · rw [s.addCause_later r later]
    rfl
  · obtain ⟨m, c, sl, follows, placed, run⟩ :=
      (s.withCauses (s.halt.causes.put r true)).addHolder_place s.params.stationNo (.halt r) absent
    rw [s.addCause_first r first, run]
    have held := insertHolder_ne_nil s.params.stationNo s.halt.holders
    exact ⟨rfl, fun n => mem_insertHolder n _ _, rfl, fun hm => follows.halts hm held,
      fun hm => follows.stands (fun h => absurd h hm) fun _ => held, placed.sent, placed.discarded⟩

/-- Removing an own cause does what R92 and R98 say of the last one and of another one. -/
theorem State.removeCause_causeRemoved (s : State) (r : HaltReason) : s.causeRemoved r (s.removeCause r) := by
  refine ⟨s.removeCause_causes r, fun another => ?_, fun any last member => ?_⟩
  · rw [s.removeCause_causes r] at another
    rw [s.removeCause_another r another]
    rfl
  · rw [s.removeCause_causes r] at last
    obtain ⟨m, c, sl, follows, placed, run⟩ :=
      (s.withCauses (s.halt.causes.put r false)).removeHolder_place s.params.stationNo .resume member
    rw [s.removeCause_last r any last, run]
    refine ⟨rfl, fun n => ?_, rfl, follows.resumes, fun hh hr => ?_, fun hh held => ?_,
      placed.sent, placed.discarded⟩
    · simp [and_comm]
    · exact follows.stands (fun h => absurd h hr) fun h => absurd h hh
    · obtain ⟨hm, hc⟩ := follows.stands (fun h => by cases hh.symm.trans h) fun _ => held
      exact ⟨hm.trans hh, hc⟩

/-! ## RELEASE_HOLDER -/

theorem State.takeReleaseHolder_started (s : State) (station : Byte) (h : s.started = true) :
    s.takeReleaseHolder station =
      if s.params.isMember station.toNat = false then (s, .refuse .range)
      else if station.toNat = s.params.stationNo then (s, .refuse .state)
      else (s.removeHolder station.toNat, .done) := by
  simp [State.takeReleaseHolder, whenStarted, h, tested_cons, tested_nil]

theorem exec_releaseHolder (s : State) (station : Byte) (free : s.portFree) :
    exec (.releaseHolder station) s =
      settledReply s 4 ((s.taken 4).takeReleaseHolder station).1 ((s.taken 4).takeReleaseHolder station).2 :=
  hostCommand_free 4 s _ free

theorem exec_releaseHolder_unstarted (s : State) (station : Byte) (free : s.portFree) (h : s.started = false) :
    exec (.releaseHolder station) s = refusedReply s 4 .mode :=
  hostCommand_whenStarted_unstarted 4 s _ free h

/-- A holder taken out while the station does not run: the set, HALT_OFF, and what follows in mode and creep (R98). -/
theorem State.removeHolder_notRunning (s : State) (n : Nat) (member : n ∈ s.halt.holders) (h : s.line.mode ≠ .run) :
    let v := s.removeHolder n
    v = { s with halt := { s.halt with holders := s.halt.holders.filter fun m => m != n }
                 line := { s.line with mode := v.line.mode }, creep := v.creep, port := v.port } ∧
    v.port = (s.report .haltOff (value := some (256 * n + holderSum v.halt.holders : Nat))).port ∧
    (s.line.mode = .halted → v.halt.holders = [] →
      v.line.mode = .run ∧ v.creep = if s.params.resumeCreep = 0 then none else some (s.params.resumeCreep * 1000)) ∧
    (s.line.mode ≠ .halted ∨ v.halt.holders ≠ [] → v.line.mode = s.line.mode ∧ v.creep = s.creep) := by
  obtain ⟨m, c, follows, set⟩ := s.withHolders_eq (s.halt.holders.filter (· != n))
  rw [s.removeHolder_of_mem n member, set]
  exact ⟨rfl, rfl, follows.resumes,
    fun hs => follows.stands (fun hr => absurd hr h) fun hh => hs.resolve_left (fun hn => hn hh)⟩

/-! ## ESTOP -/

theorem exec_estopActive_started (s : State) (h : s.started = true) (low : s.pins.estop = false) :
    exec .estopActive s = .next (finish { s with pins := { s.pins with estop := true } }
      (State.addCause { s with pins := { s.pins with estop := true } } .estop)) := by
  show execEstopActive s = _
  unfold execEstopActive
  rw [low]
  exact congrArg Host.Outcome.next (if_pos h)

theorem exec_estopInactive_started (s : State) (h : s.started = true) (high : s.pins.estop = true) :
    exec .estopInactive s = .next (finish { s with pins := { s.pins with estop := false } }
      (State.removeCause { s with pins := { s.pins with estop := false } } .estop)) := by
  show execEstopInactive s = _
  unfold execEstopInactive
  rw [high]
  exact congrArg Host.Outcome.next (if_pos h)

/-- Before the end of START an edge of ESTOP sets the pin alone (log 3). -/
theorem exec_estop_unstarted (s : State) (h : s.started = false) :
    exec .estopActive s = .next { s with pins := { s.pins with estop := true } } ∧
    exec .estopInactive s = .next { s with pins := { s.pins with estop := false } } := by
  have kept (b : Bool) (level : s.pins.estop = b) : s = { s with pins := { s.pins with estop := b } } := by
    rw [← level]
  have quiet (t : State) (p : Pins) : (if ({ s with pins := p } : State).started then t else { s with pins := p }) =
      { s with pins := p } := if_neg (Bool.eq_false_iff.1 h)
  show execEstopActive s = _ ∧ execEstopInactive s = _
  unfold execEstopActive execEstopInactive
  cases level : s.pins.estop with
  | true => exact ⟨congrArg Host.Outcome.next (kept true level), congrArg Host.Outcome.next (quiet _ _)⟩
  | false => exact ⟨congrArg Host.Outcome.next (quiet _ _), congrArg Host.Outcome.next (kept false level)⟩

/-! ## The statement -/

/-- Settles O29: the requests by what a free port makes of them, the own causes by `addCause_causeAdded` and
`removeCause_causeRemoved`, a holder's release by what follows a smaller halt set. -/
theorem hostAndEstopHoldTheLine : Obligations.HostAndEstopHoldTheLine := by
  refine ⟨fun s free h => ⟨?_, ?_⟩, fun s free h => ⟨⟨(s.taken 3).addCause .host, ?_, ?_⟩,
      ⟨(s.taken 3).removeCause .host, ?_, ?_⟩⟩, fun s h low => ⟨_, exec_estopActive_started s h low, ?_⟩,
    fun s h high => ⟨_, exec_estopInactive_started s h high, ?_⟩, exec_estop_unstarted,
    fun s station free => ⟨exec_releaseHolder_unstarted s station free, ?_⟩⟩
  · exact hostCommand_whenStarted_unstarted 3 s _ free h
  · exact hostCommand_whenStarted_unstarted 3 s _ free h
  · exact hostCommand_whenStarted_started 3 s _ free h
  · exact State.addCause_causeAdded _ _
  · exact hostCommand_whenStarted_started 3 s _ free h
  · exact State.removeCause_causeRemoved _ _
  · exact State.addCause_causeAdded _ _
  · exact State.removeCause_causeRemoved _ _
  · rw [exec_releaseHolder s station free]
    refine ⟨fun h foreign => ?_, fun h member own => ?_, fun h member other => ⟨fun absent => ?_, fun holds mode => ?_⟩⟩
    all_goals rw [(s.taken 4).takeReleaseHolder_started station h]
    · simp [foreign, refusedReply]
    · rw [if_neg (by simp [member])]
      simp [own, refusedReply]
    · simp [member, other, (s.taken 4).removeHolder_of_notMem _ absent]
    · exact ⟨(s.taken 4).removeHolder station.toNat, by simp [member, other],
        (s.taken 4).removeHolder_notRunning _ holds mode⟩

end Sys2Proof.Machine
end
